-- ==== Sys2Proof/Word.lean ====
section
/-! DEFINITION. The word of the packet-memory link and the index types of the TA512. -/

namespace Sys2Proof

/-- A 32-bit word of the link, of a record and of a ring slot (chapter 10). -/
abbrev Word := BitVec 32

/-- A station index, 0..511 (chapter 1). -/
abbrev StationId := Fin 512

/-- A ring slot number, 0..63 (R102). -/
abbrev Slot := Fin 64

end Sys2Proof
end

