-- ==== Sys2Proof/Syntax.lean ====
section
/-! DEFINITION. The requests of the packet-memory link and the part's commands: one constructor of
`Instr` for each row of spec/opcode_table.json. -/

namespace Sys2Proof

/-- The two radios' lanes. -/
inductive LaneId where
  | a
  | b
  deriving DecidableEq, Repr

/-- The direction of a request (section 8.1). -/
inductive Access where
  | read
  | write
  deriving DecidableEq, Repr

/-- The status of a response, which is the memory controller's (section 8.1, R140). -/
inductive Status where
  | good
  | error
  deriving DecidableEq, Repr

/-- A request on the link (section 8.1). The word count is the number of byte-enable groups; a write
carries one data word for each of them, a read carries none. -/
structure Request where
  /-- The link source number of the requester, 0..15. -/
  source : BitVec 4
  /-- Read or write. -/
  kind : Access
  /-- The byte address of the first word. -/
  addr : Word
  /-- The four byte enables of each word, first word first. -/
  enables : List (BitVec 4)
  /-- The write data, first word first. -/
  data : List Word
  deriving DecidableEq, Repr

/-- The commands of the part: one constructor for each row of spec/opcode_table.json. A row that is a
request on the link carries that request as it arrives at the upstream port; a row that is an event of
one lane carries the lane. -/
inductive Instr where
  /-- POWER_ON_RESET (R20): power-on reset, or RESET_N low. -/
  | powerOnReset
  /-- RESET_END (R142): reset ends with WBASE[7:0] at this value. -/
  | resetEnd (wbase : BitVec 8)
  /-- TIMEBASE_TICK (R65): one microsecond, 25 periods of REFCLK. -/
  | timebaseTick
  /-- REFILL_EXPIRY (R72) of one lane. -/
  | refillExpiry (lane : LaneId)
  /-- SWEEP_VISIT (R73) of one lane. -/
  | sweepVisit (lane : LaneId)
  /-- PHASE_EXPIRY (R76) of one lane. -/
  | phaseExpiry (lane : LaneId)
  /-- GRANT_EXPIRY (R132) of the grant issued at one ring slot of one lane. -/
  | grantExpiry (lane : LaneId) (slot : Slot)
  /-- STAGING_DECISION (R87) of one lane's Grant Selector. -/
  | stagingDecision (lane : LaneId)
  /-- STATION_RECORD_WRITE (R2). -/
  | stationRecordWrite (req : Request)
  /-- REMOVAL_REQUEST (R15). -/
  | removalRequest (req : Request)
  /-- POST (R30). -/
  | post (req : Request)
  /-- FLUSH (R34). -/
  | flush (req : Request)
  /-- HOLD (R35). -/
  | hold (req : Request)
  /-- RELEASE (R36). -/
  | release (req : Request)
  /-- DOZE (R37). -/
  | doze (req : Request)
  /-- WAKE (R38). -/
  | wake (req : Request)
  /-- BAD_COMMAND (R28). -/
  | badCommand (req : Request)
  /-- GLOBAL_CONTROL_WRITE (R152): refused, or accepted with its scheduler clear field clear. -/
  | globalControlWrite (req : Request)
  /-- SCHEDULER_CLEAR (R153): accepted with its scheduler clear field set. -/
  | schedulerClear (req : Request)
  /-- LANE_ENABLE (R105). -/
  | laneEnable (req : Request)
  /-- LANE_DISABLE (R106). -/
  | laneDisable (req : Request)
  /-- STATION_PROBE (R162). -/
  | stationProbe (req : Request)
  /-- LANE_PROBE (R163). -/
  | laneProbe (req : Request)
  /-- POOL_PROBE (R163). -/
  | poolProbe (req : Request)
  /-- ATTENTION_PROBE (R161). -/
  | attentionProbe (req : Request)
  /-- BAD_PROBE (R160). -/
  | badProbe (req : Request)
  /-- PARTIAL_WRITE (R147). -/
  | partialWrite (req : Request)
  /-- PASS_THROUGH (R146). -/
  | passThrough (req : Request)
  /-- RING_READ (R111). -/
  | ringRead (req : Request)
  /-- READ_RESPONSE (R149): memory answers the request at this place among those still unanswered
  (0 is the oldest), with this status and these words. -/
  | readResponse (index : Nat) (status : Status) (words : List Word)
  /-- COMPLETION (R125). -/
  | completion (req : Request)
  deriving DecidableEq, Repr

end Sys2Proof
end

