-- ==== Sys2Proof/Decode.lean ====
section
/-! DEFINITION. Reading a command from a table word. The part has no instruction words: no row of
spec/opcode_table.json gives bits, so no word spells a command (log entry 5). A request on the link is read
by `Sys2Proof.Machine.classify`. -/

namespace Sys2Proof

/-- The command a word spells by the table's bits: none, since the table gives no row any bits. -/
def decodeTableWord (_nbits _w : Nat) : Option Instr := none

end Sys2Proof
end

