-- ==== Sys2Proof/Config.lean ====
section
/-! DEFINITION. The constants the spec fixes for the part. The spec leaves no value of the part to the
implementer and calls no result undefined, so there is no free value here (log entry 8). -/

namespace Sys2Proof.Config

/-- The descriptor pool holds 4096 entries, numbered 0..4095 (section 2.1). -/
def poolSize : Nat := 4096

/-- The least credit a station can hold, in AU (R45). -/
def creditFloor : Int := -8388608

/-- The largest estimate, in AU; a larger sum is set to it and marked ESTIMATE_CLAMPED (R48). -/
def estimateMax : Nat := 32767

/-- A lane holds at most four issued grants (R109). -/
def maxIssued : Nat := 4

/-- A quantum or an overhead lies at or below 4095 AU (R47). -/
def auSettingMax : Nat := 4095

/-- The pool low watermark lies at or below 4095 (R152). -/
def watermarkMax : Nat := 4095

/-- AU in one microsecond: the airtime unit is 0.25 µs (section 3.1). -/
def auPerMicrosecond : Nat := 4

end Sys2Proof.Config
end

