-- ==== Sys2Proof/Machine/State.lean ====
section
/-! DEFINITION. The state of the part, one group of fields for each owner of state (section "How the
blocks share state"), the reasons a step can stop, and the state after reset. -/

namespace Sys2Proof.Machine

open Sys2Proof

/-! ### Names the spec gives -/

/-- The service classes. A lane's current phase is named by the class it prefers (section 4.6). -/
inductive ServiceClass where
  | reserved
  | shared
  deriving DecidableEq, Repr

/-- The lifecycle of a station entry (section 1.3). -/
inductive Lifecycle where
  | absent
  | active
  | retiring
  deriving DecidableEq, Repr

/-- The kind codes of a station record (section 1.2). -/
inductive KindCode where
  | none
  | legacy
  | highThroughput
  | veryHighThroughput
  deriving DecidableEq, Repr

/-- The mode codes of a station record (section 1.2). -/
inductive ModeCode where
  | unicastShared
  | unicastReserved
  | group
  | invalid
  deriving DecidableEq, Repr

/-- The outcomes a radio reports in a completion (section 7.1). -/
inductive FrameOutcome where
  | delivered
  | failed
  | discarded
  deriving DecidableEq, Repr

/-- The lane states (section 6.2). -/
inductive LaneState where
  | off
  | running
  | draining
  deriving DecidableEq, Repr

/-- The phase modes of a lane (R67). -/
inductive PhaseMode where
  | alternate
  | reservedOnly
  | sharedOnly
  deriving DecidableEq, Repr

/-- The eleven attention causes (section 9.4). -/
inductive Cause where
  | recordRefused
  | partialWrite
  | postRefused
  | poolLow
  | creditFloor
  | refillOverrun
  | ringOrder
  | completionFraming
  | completionUnmatched
  | lateCompletion
  | grantExpired
  deriving DecidableEq, Repr

/-- The bit of a cause in the latched set and in the enable set (section 10.8). -/
def Cause.bit : Cause → Nat
  | .recordRefused => 0
  | .partialWrite => 1
  | .postRefused => 2
  | .poolLow => 3
  | .creditFloor => 4
  | .refillOverrun => 5
  | .ringOrder => 6
  | .completionFraming => 7
  | .completionUnmatched => 8
  | .lateCompletion => 9
  | .grantExpired => 10

/-! ### Station Table and Account Unit -/

/-- The station's shadow: the accepted fields of its record (section 1.1). Class and group are derived
from the mode. -/
structure Shadow where
  kind : KindCode
  mode : ModeCode
  lane : LaneId
  /-- 0..255. -/
  weight : Nat
  /-- 1..255 once a record has been accepted, 0 before. -/
  depthLimit : Nat
  /-- The effective rate in half-Mb/s units: 2..4800 once a record has been accepted, 0 before. -/
  rate : Nat
  /-- In µs, 0..65,535. -/
  ceiling : Nat
  deriving DecidableEq, Repr

/-- A station entry of the Station Table (section 1.1). -/
structure StationEntry where
  lifecycle : Lifecycle
  held : Bool
  dozing : Bool
  shadow : Shadow
  deriving DecidableEq, Repr

/-- A station's airtime account (section 3.1), in AU. -/
structure Account where
  credit : Int
  reservation : Nat
  floorReached : Bool
  /-- The outcome of the last matched completion; `none` is the spec's "none". -/
  lastOutcome : Option FrameOutcome
  deriving DecidableEq, Repr

/-! ### Descriptor pool -/

/-- A pool entry in use (section 2.1). A free entry holds no meaningful contents, so the free stack
holds entry numbers alone. -/
structure PoolEntry where
  /-- The entry's number, 0..4095, internal to the part. -/
  id : Nat
  addr : Word
  /-- The frame length in bytes, 1..16,383. -/
  len : Nat
  owner : StationId
  deriving DecidableEq, Repr

/-! ### Lanes -/

/-- A timer setting (section 4.2). -/
structure TimerSetting where
  preset : Nat
  code : Nat
  deriving DecidableEq, Repr

/-- An issued grant (R109). Its station is its entry's owner. -/
structure Grant where
  entry : PoolEntry
  seq : BitVec 8
  slot : Slot
  /-- The estimate in AU, kept for the correction or the expiry. -/
  estimate : Nat
  /-- ESTIMATE_CLAMPED. -/
  clamped : Bool
  /-- A value of the timebase count. -/
  deadline : BitVec 32
  deriving DecidableEq, Repr

/-- A record of the expired-grant memory (R133). -/
structure ExpiredRecord where
  addr : Word
  station : StationId
  deriving DecidableEq, Repr

/-- One lane: what the Account Unit keeps per lane, its Lane Timers, its Grant Selector and its Grant
Tracker. A timer is `none` when stopped and `some r` when running with r µs left; `some 0` is the
microsecond of its expiry, before the expiry is taken (log entry 2). -/
structure Lane where
  quantum : Nat
  overhead : Nat
  refillSetting : TimerSetting
  reservedSetting : TimerSetting
  sharedSetting : TimerSetting
  timeoutSetting : TimerSetting
  mode : PhaseMode
  refillTimer : Option Nat
  reservedTimer : Option Nat
  sharedTimer : Option Nat
  phase : ServiceClass
  /-- Sweep in progress. -/
  sweeping : Bool
  /-- The group the sweep in progress visits next. -/
  position : Fin 32
  /-- The refill-owed flag. -/
  owed : Bool
  /-- The model's own: the sweep's visit of this microsecond has not been taken yet (log entry 2). -/
  visitDue : Bool
  /-- The staged slot; the staged grant's station is its entry's owner (R81). -/
  staged : Option PoolEntry
  reservedPtr : StationId
  sharedPtr : StationId
  laneState : LaneState
  /-- The expected slot. -/
  expected : Slot
  /-- The next sequence. -/
  nextSeq : BitVec 8
  /-- The issued list, oldest first. -/
  issued : List Grant
  /-- The expired-grant memory, one place per ring slot. -/
  expired : Vector (Option ExpiredRecord) 64
  deriving DecidableEq, Repr

/-! ### Link Interface -/

/-- A request sent downstream whose response has not returned, with the words that replace memory's
in a substituted ring read (R149). -/
structure Outstanding where
  req : Request
  answer : Option (List Word)
  deriving DecidableEq, Repr

/-- A response returned upstream, with the request it answers (R139). -/
structure Response where
  req : Request
  status : Status
  words : List Word
  deriving DecidableEq, Repr

/-! ### The state -/

/-- The state of the part. -/
structure State where
  /-- Window Decoder: the window base. While the part is in reset it holds none (R142), so `none` says
  that the part is in reset. -/
  base : Option Word
  /-- Timebase: the microsecond count (R65). -/
  count : BitVec 32
  /-- Station Table. -/
  table : Vector StationEntry 512
  /-- Account Unit, per station. -/
  accounts : Vector Account 512
  /-- Queue Manager: the station queues, head first. -/
  queues : Vector (List PoolEntry) 512
  /-- Queue Manager: the free stack, top first. -/
  free : List Nat
  laneA : Lane
  laneB : Lane
  /-- Probe Unit: the source map. -/
  radioA : BitVec 4
  radioB : BitVec 4
  /-- Probe Unit: the pool low watermark. -/
  watermark : Nat
  /-- Probe Unit: the attention enable set, one bit per cause. -/
  enabled : BitVec 11
  /-- Probe Unit: the least free count. -/
  leastFree : Nat
  /-- Attention Unit: the latched causes, one bit per cause. -/
  latched : BitVec 11
  /-- The requests that have left the downstream port, in order (log entry 4). -/
  down : List Request
  /-- The requests sent downstream whose responses have not returned, oldest first. -/
  outstanding : List Outstanding
  /-- The responses that have left the upstream port, in order (log entry 4). -/
  up : List Response
  /-- The commands that wait, first in, first out. -/
  pending : List Instr
  deriving DecidableEq, Repr

/-- The reasons for which the part stops with a fault: the spec names none, so there is none. -/
inductive Fault where
  deriving DecidableEq, Repr

/-- The reasons for which a command has no meaning in the model. -/
inductive Refusal where
  /-- Raised by `exec` for a command that the model gives no meaning. No arm raises it. Safe: the model
  stops where the part goes on. -/
  | notModelled (mnemonic : String)
  deriving DecidableEq, Repr

/-- What a command's meaning answers. -/
abbrev Out := Host.Outcome State Fault Refusal

/-! ### Reset -/

/-- A station entry after reset (R20). -/
def StationEntry.reset : StationEntry where
  lifecycle := .absent
  held := false
  dozing := false
  shadow := { kind := .none, mode := .unicastShared, lane := .a, weight := 0, depthLimit := 0, rate := 0, ceiling := 0 }

/-- An account after reset (R62). -/
def Account.reset : Account where
  credit := 0
  reservation := 0
  floorReached := false
  lastOutcome := none

/-- A lane after reset (R62, R79, R99, R120). -/
def Lane.reset : Lane where
  quantum := 64
  overhead := 0
  refillSetting := { preset := 249, code := 1 }
  reservedSetting := { preset := 255, code := 3 }
  sharedSetting := { preset := 255, code := 3 }
  timeoutSetting := { preset := 199, code := 5 }
  mode := .alternate
  refillTimer := none
  reservedTimer := none
  sharedTimer := none
  phase := .reserved
  sweeping := false
  position := 0
  owed := false
  visitDue := false
  staged := none
  reservedPtr := 511
  sharedPtr := 511
  laneState := .off
  expected := 0
  nextSeq := 0
  issued := []
  expired := Vector.replicate 64 none

/-- The free stack in reset order: entry 0 on top, entry 4095 at the bottom (R24). -/
@[irreducible] def resetFree : List Nat := List.range Config.poolSize

/-- The part held in reset (R20, R42, R62, R65, R79, R99, R120, R142, R164). The command RESET_END takes
it out of reset. -/
def State.reset : State where
  base := none
  count := 0
  table := Vector.replicate 512 StationEntry.reset
  accounts := Vector.replicate 512 Account.reset
  queues := Vector.replicate 512 []
  free := resetFree
  laneA := Lane.reset
  laneB := Lane.reset
  radioA := 1
  radioB := 2
  watermark := 0
  enabled := 0
  leastFree := 4096
  latched := 0
  down := []
  outstanding := []
  up := []
  pending := []

/-! ### Reading and writing one item -/

/-- The lane of a name. -/
def State.lane (s : State) : LaneId → Lane
  | .a => s.laneA
  | .b => s.laneB

/-- The state with one lane replaced. -/
def State.setLane (s : State) (l : LaneId) (x : Lane) : State :=
  match l with
  | .a => { s with laneA := x }
  | .b => { s with laneB := x }

/-- The entry of a station. -/
def State.entry (s : State) (n : StationId) : StationEntry := s.table[n]

/-- The state with one station's entry replaced. -/
def State.setEntry (s : State) (n : StationId) (x : StationEntry) : State :=
  { s with table := s.table.set n x }

/-- The account of a station. -/
def State.account (s : State) (n : StationId) : Account := s.accounts[n]

/-- The state with one station's account replaced. -/
def State.setAccount (s : State) (n : StationId) (x : Account) : State :=
  { s with accounts := s.accounts.set n x }

/-- The queue of a station, head first. -/
def State.queue (s : State) (n : StationId) : List PoolEntry := s.queues[n]

/-- The state with the free stack replaced. -/
def State.setFree (s : State) (x : List Nat) : State := { s with free := x }

/-- The state with one station's queue replaced. -/
def State.setQueue (s : State) (n : StationId) (x : List PoolEntry) : State :=
  { s with queues := s.queues.set n x }

end Sys2Proof.Machine
end

