-- ==== Sys2Proof/Machine/Operands.lean ====
section
/-! DEFINITION. How a request on the link is read: the fields of words, the window's regions, whole and
partial requests, source classes, the fields of each record, and the row that each request is. -/

namespace Sys2Proof.Machine

open Sys2Proof

/-! ### Fields of words (chapter 10) -/

/-- The unsigned number in bits `hi`..`lo` of a word. -/
def bits (w : Word) (hi lo : Nat) : Nat := w.toNat / 2 ^ lo % 2 ^ (hi + 1 - lo)

/-- Bit `k` of a word is set. -/
def flag (w : Word) (k : Nat) : Bool := bits w k k == 1

/-- Word `k` of a request's data. A well-formed whole write carries every word its record has; a
request with no such word reads 0 here (log entry 6). -/
def reqWord (r : Request) (k : Nat) : Word := r.data.getD k 0

/-! ### The steering window (R143, R144) -/

/-- The regions of the window (R144); `unnamed` is every other offset. -/
inductive Region where
  | globalControl
  | laneControl (lane : LaneId)
  | probeBlock
  | postSlot (n : StationId)
  | stationRecord (n : StationId)
  | ring (lane : LaneId) (slot : Slot)
  | unnamed
  deriving DecidableEq, Repr

/-- The region that holds an offset from the window base (R144). -/
def regionAt (off : Nat) : Region :=
  if off < 0x20 then .globalControl
  else if off < 0x40 then .laneControl .a
  else if off < 0x60 then .laneControl .b
  else if 0x100 ≤ off ∧ off < 0x120 then .probeBlock
  else if 0x2000 ≤ off ∧ off < 0x4000 then .postSlot (Fin.ofNat 512 ((off - 0x2000) / 16))
  else if 0x4000 ≤ off ∧ off < 0x8000 then .stationRecord (Fin.ofNat 512 ((off - 0x4000) / 32))
  else if 0x8000 ≤ off ∧ off < 0x8400 then .ring .a (Fin.ofNat 64 ((off - 0x8000) / 16))
  else if 0x8400 ≤ off ∧ off < 0x8800 then .ring .b (Fin.ofNat 64 ((off - 0x8400) / 16))
  else .unnamed

/-- The record size of a region in words (R144); 0 where the window names no record. -/
def recordWords : Region → Nat
  | .globalControl => 8
  | .laneControl _ => 8
  | .probeBlock => 8
  | .postSlot _ => 4
  | .stationRecord _ => 8
  | .ring _ _ => 4
  | .unnamed => 0

/-- The regions whose processor-side writes are record writes (R144). -/
def isRecordRegion : Region → Bool
  | .ring _ _ => false
  | .unnamed => false
  | _ => true

/-- The offset of a request's first word from the window base, where it lies in the window (R143). -/
def windowOffset (base addr : Word) : Option Nat :=
  if base.toNat ≤ addr.toNat ∧ addr.toNat ≤ base.toNat + 65535 then some (addr.toNat - base.toNat) else none

/-- A request is whole when it has the record's word count, lies at a multiple of the record's size and
has every byte enable set (R145). -/
def isWhole (r : Request) (off words : Nat) : Bool :=
  r.enables.length == words && off % (4 * words) == 0 && r.enables.all (· == 0xF)

/-! ### Source classes (R141) -/

/-- The lane whose radio a source number is by the source map; `none` is the processor side (R141). -/
def radioOf (s : State) (source : BitVec 4) : Option LaneId :=
  if source = s.radioA then some .a else if source = s.radioB then some .b else none

/-! ### The station record (section 10.2) -/

/-- A 2-bit kind code. -/
def kindOfCode : Nat → KindCode
  | 0 => .none
  | 1 => .legacy
  | 2 => .highThroughput
  | _ => .veryHighThroughput

/-- The code of a kind. -/
def KindCode.code : KindCode → Nat
  | .none => 0
  | .legacy => 1
  | .highThroughput => 2
  | .veryHighThroughput => 3

/-- A 2-bit mode code. -/
def modeOfCode : Nat → ModeCode
  | 0 => .unicastShared
  | 1 => .unicastReserved
  | 2 => .group
  | _ => .invalid

/-- The code of a mode. -/
def ModeCode.code : ModeCode → Nat
  | .unicastShared => 0
  | .unicastReserved => 1
  | .group => 2
  | .invalid => 3

/-- The class a mode gives: mode 0 is shared, modes 1 and 2 are reserved (R3, R84). -/
def ModeCode.serviceClass : ModeCode → ServiceClass
  | .unicastShared => .shared
  | _ => .reserved

/-- The lane a lane bit names: 0 lane A, 1 lane B. -/
def laneOfBit (b : Bool) : LaneId := if b then .b else .a

/-- The bit of a lane. -/
def laneBit : LaneId → Nat
  | .a => 0
  | .b => 1

/-- A station record as software writes it (sections 1.2 and 10.2). -/
structure StationRecord where
  kind : KindCode
  mode : ModeCode
  lane : LaneId
  weight : Nat
  depthLimit : Nat
  generation : Nat
  rate : Nat
  ceiling : Nat
  deriving DecidableEq, Repr

/-- The fields of a station record write (R165, section 10.2). -/
def readStationRecord (r : Request) : StationRecord where
  kind := kindOfCode (bits (reqWord r 0) 1 0)
  mode := modeOfCode (bits (reqWord r 0) 3 2)
  lane := laneOfBit (flag (reqWord r 0) 4)
  weight := bits (reqWord r 0) 15 8
  depthLimit := bits (reqWord r 0) 23 16
  generation := bits (reqWord r 0) 31 24
  rate := bits (reqWord r 1) 12 0
  ceiling := bits (reqWord r 1) 31 16

/-- The removal cell of the kind/mode table: kind 0, mode 0 (R3). -/
def isRemovalCell (k : KindCode) (m : ModeCode) : Bool := k == .none && m == .unicastShared

/-- The refused cells of the kind/mode table: mode 3, and kind 0 with mode 1 or 2 (R3). -/
def isRefusedCell (k : KindCode) (m : ModeCode) : Bool := m == .invalid || (k == .none && m != .unicastShared)

/-- The clamp range of an accepting cell: its lower and upper rate (R3). -/
def rateRange (k : KindCode) (m : ModeCode) : Nat × Nat :=
  match m, k with
  | .group, _ => (2, 108)
  | _, .highThroughput => (13, 1200)
  | _, .veryHighThroughput => (13, 4800)
  | _, _ => (2, 108)

/-- The effective rate of an accepted record: the written rate moved into its cell's range (R4). -/
def clampRate (k : KindCode) (m : ModeCode) (rate : Nat) : Nat :=
  max (rateRange k m).1 (min rate (rateRange k m).2)

/-- The depth limit of an accepted record: 0 becomes 1 (R5). -/
def clampDepth (d : Nat) : Nat := if d = 0 then 1 else d

/-- The shadow an accepted record gives (R4, R5). -/
def StationRecord.shadow (x : StationRecord) : Shadow where
  kind := x.kind
  mode := x.mode
  lane := x.lane
  weight := x.weight
  depthLimit := clampDepth x.depthLimit
  rate := clampRate x.kind x.mode x.rate
  ceiling := x.ceiling

/-- A cell whose moved rate is flagged GROUP_RATE: the group cells of kinds 2 and 3 (R4). -/
def isGroupRateCell (k : KindCode) (m : ModeCode) : Bool :=
  m == .group && (k == .highThroughput || k == .veryHighThroughput)

/-- RATE_CLAMPED of an accepted record (R4). -/
def StationRecord.rateClamped (x : StationRecord) : Bool :=
  clampRate x.kind x.mode x.rate != x.rate && !isGroupRateCell x.kind x.mode

/-- GROUP_RATE of an accepted record (R4). -/
def StationRecord.groupRate (x : StationRecord) : Bool :=
  clampRate x.kind x.mode x.rate != x.rate && isGroupRateCell x.kind x.mode

/-- DEPTH_CLAMPED of an accepted record (R5). -/
def StationRecord.depthClamped (x : StationRecord) : Bool := x.depthLimit == 0

/-! ### The post slot (section 10.3) -/

/-- The command codes of a post slot. -/
inductive PostCommand where
  | post
  | flush
  | hold
  | release
  | doze
  | wake
  | unknown
  deriving DecidableEq, Repr

/-- The command a post slot write carries (section 10.3). -/
def postCommand (r : Request) : PostCommand :=
  match bits (reqWord r 0) 3 0 with
  | 1 => .post
  | 2 => .flush
  | 3 => .hold
  | 4 => .release
  | 5 => .doze
  | 6 => .wake
  | _ => .unknown

/-- The descriptor address a POST uses: word 1 with its two lowest bits taken as 0 (R28). -/
def postAddr (r : Request) : Word := BitVec.ofNat 32 ((reqWord r 1).toNat / 4 * 4)

/-- The frame length of a POST. -/
def postLen (r : Request) : Nat := bits (reqWord r 2) 13 0

/-- Wake-on-post. -/
def postWake (r : Request) : Bool := flag (reqWord r 2) 31

/-! ### The global control record (section 10.4) -/

/-- The Radio A source of a global control record. -/
def globalRadioA (r : Request) : BitVec 4 := BitVec.ofNat 4 (bits (reqWord r 0) 3 0)

/-- The Radio B source of a global control record. -/
def globalRadioB (r : Request) : BitVec 4 := BitVec.ofNat 4 (bits (reqWord r 0) 11 8)

/-- The scheduler clear field. -/
def globalClear (r : Request) : Bool := flag (reqWord r 0) 31

/-- The pool low watermark as written. -/
def globalWatermark (r : Request) : Nat := bits (reqWord r 1) 12 0

/-- The attention enables; positions that name no cause are ignored (R157). -/
def globalEnables (r : Request) : BitVec 11 := BitVec.ofNat 11 (bits (reqWord r 2) 10 0)

/-! ### The lane control record (section 10.5) -/

/-- A lane control record as software writes it. -/
structure LaneRecord where
  enable : Bool
  start : Nat
  modeCode : Nat
  reserved : TimerSetting
  shared : TimerSetting
  refill : TimerSetting
  timeout : TimerSetting
  quantum : Nat
  overhead : Nat
  deriving DecidableEq, Repr

/-- The preset and prescale code of one timer word (section 10.5). -/
def readTimerSetting (w : Word) : TimerSetting where
  preset := bits w 9 0
  code := bits w 19 16

/-- The fields of a lane control record write (R165, section 10.5). -/
def readLaneRecord (r : Request) : LaneRecord where
  enable := flag (reqWord r 0) 0
  start := bits (reqWord r 0) 15 8
  modeCode := bits (reqWord r 0) 17 16
  reserved := readTimerSetting (reqWord r 1)
  shared := readTimerSetting (reqWord r 2)
  refill := readTimerSetting (reqWord r 3)
  timeout := readTimerSetting (reqWord r 4)
  quantum := bits (reqWord r 5) 12 0
  overhead := bits (reqWord r 5) 28 16

/-- A timer setting as taken: preset above 255 becomes 255, code above 7 becomes 7 (R67). -/
def clampTimer (t : TimerSetting) : TimerSetting where
  preset := min t.preset 255
  code := min t.code 7

/-- The phase mode a code names; code 3 is set to SHARED_ONLY (R67). -/
def phaseModeOfCode : Nat → PhaseMode
  | 0 => .alternate
  | 1 => .reservedOnly
  | _ => .sharedOnly

/-- The code of a phase mode (section 10.6). -/
def PhaseMode.code : PhaseMode → Nat
  | .alternate => 0
  | .reservedOnly => 1
  | .sharedOnly => 2

/-- The ring start slot as taken: above 63 becomes 63 (R105). -/
def clampStart (k : Nat) : Slot := Fin.ofNat 64 (min k 63)

/-- The quantum as taken: 0 becomes 1, above 4095 becomes 4095 (R47). -/
def clampQuantum (q : Nat) : Nat := max 1 (min q Config.auSettingMax)

/-- The overhead as taken: above 4095 becomes 4095 (R47). -/
def clampOverhead (o : Nat) : Nat := min o Config.auSettingMax

/-! ### The probe block (section 10.6) -/

/-- What a probe write asks for. -/
inductive ProbeKind where
  | station (n : StationId)
  | lane (l : LaneId)
  | pool
  | attention
  | bad
  deriving DecidableEq, Repr

/-- The probe a probe write asks for; `bad` where R160 refuses it. -/
def probeKind (r : Request) : ProbeKind :=
  let arg := bits (reqWord r 0) 27 16
  match bits (reqWord r 0) 3 0 with
  | 1 => if arg ≤ 511 then .station (Fin.ofNat 512 arg) else .bad
  | 2 => if arg = 0 then .lane .a else if arg = 1 then .lane .b else .bad
  | 3 => .pool
  | 4 => .attention
  | _ => .bad

/-! ### The completion (section 10.7) -/

/-- The outcome a completion reports; `none` is the invalid code 3. -/
def completionOutcome (r : Request) : Option FrameOutcome :=
  match bits (reqWord r 0) 1 0 with
  | 0 => some .delivered
  | 1 => some .failed
  | 2 => some .discarded
  | _ => none

/-- The owner field of a completion. -/
def completionOwner (r : Request) : Bool := flag (reqWord r 0) 31

/-- The airtime a completion reports, in µs. -/
def completionAirtime (r : Request) : Nat := bits (reqWord r 2) 15 0

/-! ### Which row a request is -/

/-- What a request is to the part: one constructor for each row that is a request on the link, with the
station, lane or slot it names. -/
inductive LinkEvent where
  | passThrough
  | partialWrite
  | stationRecord (n : StationId)
  | removal (n : StationId)
  | post (n : StationId)
  | flush (n : StationId)
  | hold (n : StationId)
  | release (n : StationId)
  | doze (n : StationId)
  | wake (n : StationId)
  | badCommand (n : StationId)
  | globalControl
  | schedulerClear
  | laneEnable (l : LaneId)
  | laneDisable (l : LaneId)
  | stationProbe (n : StationId)
  | laneProbe (l : LaneId)
  | poolProbe
  | attentionProbe
  | badProbe
  | ringRead (l : LaneId) (k : Slot) (whole : Bool)
  | completion (l : LaneId) (k : Slot) (whole : Bool)
  deriving DecidableEq, Repr

/-- The row of a whole processor-side write of a record region, by the words it carries: the kind and
mode of a station record (R3), the command code of a post slot (R28), the enable of a lane record (R104),
the clear field and the source numbers of the global record (R151, R152), the kind and argument of a
probe (R160). -/
def recordEvent (r : Request) : Region → LinkEvent
  | .stationRecord n =>
    if isRemovalCell (readStationRecord r).kind (readStationRecord r).mode then .removal n else .stationRecord n
  | .postSlot n =>
    match postCommand r with
    | .post => .post n
    | .flush => .flush n
    | .hold => .hold n
    | .release => .release n
    | .doze => .doze n
    | .wake => .wake n
    | .unknown => .badCommand n
  | .globalControl =>
    if globalClear r && globalRadioA r != globalRadioB r then .schedulerClear else .globalControl
  | .laneControl l => if (readLaneRecord r).enable then .laneEnable l else .laneDisable l
  | .probeBlock =>
    match probeKind r with
    | .station n => .stationProbe n
    | .lane l => .laneProbe l
    | .pool => .poolProbe
    | .attention => .attentionProbe
    | .bad => .badProbe
  | .ring _ _ => .passThrough
  | .unnamed => .passThrough

/-- Where the Window Decoder sends a request that lies in the window, by its region, its source class,
its kind and whether it is whole (R146). -/
def routeInWindow (radio : Option LaneId) (r : Request) (off : Nat) : LinkEvent :=
  let region := regionAt off
  let whole := isWhole r off (recordWords region)
  match radio, r.kind, region with
  | some l, .read, .ring l' k => if l = l' then .ringRead l k whole else .passThrough
  | some l, .write, .ring l' k => if l = l' then .completion l k whole else .passThrough
  | some _, _, _ => .passThrough
  | none, .read, _ => .passThrough
  | none, .write, region =>
    if isRecordRegion region then (if whole then recordEvent r region else .partialWrite) else .passThrough

/-- What a request is to the part as it stands: nothing while the part is in reset (R142), nothing when
its first word lies outside the window (R143), else as the region map says (R146). -/
def classify (s : State) (r : Request) : LinkEvent :=
  match s.base with
  | none => .passThrough
  | some base =>
    match windowOffset base r.addr with
    | none => .passThrough
    | some off => routeInWindow (radioOf s r.source) r off

end Sys2Proof.Machine
end

