-- ==== Sys2Proof/Machine/Flags.lean ====
section
/-! DEFINITION. What the part writes and drives: result codes and result words, notes, the grant and the
empty answer, the attention causes and ATTN_N. Each word is written as the sum of its fields, each field
at the weight of its lowest bit; every other bit is 0 (R166). -/

namespace Sys2Proof.Machine

open Sys2Proof

/-! ### Attention (section 9.4) -/

/-- The set that holds one cause alone. -/
def Cause.mask (c : Cause) : BitVec 11 := BitVec.twoPow 11 c.bit

/-- Latching a cause adds it to the latched set (R156). -/
def State.latch (s : State) (c : Cause) : State := { s with latched := s.latched ||| c.mask }

/-- Latching a cause where a condition holds. -/
def State.latchIf (s : State) (b : Bool) (c : Cause) : State := if b then s.latch c else s

/-- A cause is latched. -/
def State.isLatched (s : State) (c : Cause) : Bool := s.latched.getLsbD c.bit

/-- The part drives ATTN_N low: some latched cause is enabled (R158). The pin is this view of the state. -/
def State.attnLow (s : State) : Bool := s.latched &&& s.enabled != 0

/-! ### Codes (R166) -/

/-- The codes of result words and probe status fields (R166). -/
inductive ResultCode where
  | accepted
  | acceptedClamped
  | badKind
  | laneBusy
  | busy
  | noStation
  | retiring
  | badLength
  | stationFull
  | poolEmpty
  | badCommand
  | mapConflict
  | badProbe
  deriving DecidableEq, Repr

/-- The number of a code (R166). -/
def ResultCode.code : ResultCode → Nat
  | .accepted => 1
  | .acceptedClamped => 2
  | .badKind => 3
  | .laneBusy => 4
  | .busy => 5
  | .noStation => 6
  | .retiring => 7
  | .badLength => 8
  | .stationFull => 9
  | .poolEmpty => 10
  | .badCommand => 11
  | .mapConflict => 12
  | .badProbe => 13

/-- ACCEPTED_CLAMPED when any clamp flag is set, else ACCEPTED. -/
def acceptedCode (clamped : Bool) : ResultCode := if clamped then .acceptedClamped else .accepted

/-- A lane state as words carry it (section 10.6). -/
def LaneState.code : LaneState → Nat
  | .off => 0
  | .running => 1
  | .draining => 2

/-- A lifecycle as words carry it (section 10.6). -/
def Lifecycle.code : Lifecycle → Nat
  | .absent => 0
  | .active => 1
  | .retiring => 2

/-- A last outcome as words carry it: 3 means none (section 10.6). -/
def lastOutcomeCode : Option FrameOutcome → Nat
  | some .delivered => 0
  | some .failed => 1
  | some .discarded => 2
  | none => 3

/-- A class as words carry it: 0 shared, 1 reserved (section 10.6). -/
def classCode : ServiceClass → Nat
  | .shared => 0
  | .reserved => 1

/-- A phase as words carry it: 0 reserved, 1 shared (section 10.6). -/
def phaseCode : ServiceClass → Nat
  | .reserved => 0
  | .shared => 1

/-- A word from the sum of its fields. -/
def wordOf (v : Nat) : Word := BitVec.ofNat 32 v

/-! ### Result words -/

/-- The result word of a station record (R6, section 10.2). -/
def stationResult (code : ResultCode) (rateClamped depthClamped groupRate : Bool) (generation : Nat) : Word :=
  wordOf (code.code + rateClamped.toNat * 2 ^ 8 + depthClamped.toNat * 2 ^ 9 + groupRate.toNat * 2 ^ 10
    + generation % 256 * 2 ^ 24)

/-- The result word of an accepted station record (R6). -/
def stationAccepted (x : StationRecord) : Word :=
  stationResult (acceptedCode (x.rateClamped || x.depthClamped || x.groupRate)) x.rateClamped x.depthClamped
    x.groupRate x.generation

/-- The result word of a station record with no clamp flag: a refusal or a removal (R6). -/
def stationPlain (code : ResultCode) (x : StationRecord) : Word := stationResult code false false false x.generation

/-- The result word of a post slot (R29, section 10.3). -/
def postResult (code : ResultCode) (depth free : Nat) : Word :=
  wordOf (code.code + depth % 256 * 2 ^ 8 + free % 8192 * 2 ^ 16)

/-- The result word of a global control record (R152, section 10.4). -/
def globalResult (code : ResultCode) (watermarkClamped cleared : Bool) : Word :=
  wordOf (code.code + watermarkClamped.toNat * 2 ^ 8 + cleared.toNat * 2 ^ 9)

/-- START_CLAMPED (R155). -/
def LaneRecord.startClamped (x : LaneRecord) : Bool := decide (63 < x.start)

/-- MODE_CLAMPED (R67). -/
def LaneRecord.modeClamped (x : LaneRecord) : Bool := decide (2 < x.modeCode)

/-- A timer's clamp flag: its preset, its code or both were moved (R155). -/
def timerClamped (t : TimerSetting) : Bool := clampTimer t != t

/-- QUANTUM_CLAMPED (R47). -/
def LaneRecord.quantumClamped (x : LaneRecord) : Bool := clampQuantum x.quantum != x.quantum

/-- OVERHEAD_CLAMPED (R47). -/
def LaneRecord.overheadClamped (x : LaneRecord) : Bool := clampOverhead x.overhead != x.overhead

/-- Any of the eight clamp flags of a lane control record (R155). -/
def LaneRecord.anyClamped (x : LaneRecord) : Bool :=
  x.startClamped || x.modeClamped || timerClamped x.reserved || timerClamped x.shared || timerClamped x.refill
    || timerClamped x.timeout || x.quantumClamped || x.overheadClamped

/-- The result word of a lane control record (R155, section 10.5). -/
def laneResult (x : LaneRecord) (after : LaneState) : Word :=
  wordOf ((acceptedCode x.anyClamped).code + x.startClamped.toNat * 2 ^ 8 + x.modeClamped.toNat * 2 ^ 9
    + (timerClamped x.reserved).toNat * 2 ^ 10 + (timerClamped x.shared).toNat * 2 ^ 11
    + (timerClamped x.refill).toNat * 2 ^ 12 + (timerClamped x.timeout).toNat * 2 ^ 13
    + x.quantumClamped.toNat * 2 ^ 14 + x.overheadClamped.toNat * 2 ^ 15 + after.code * 2 ^ 16)

/-! ### Views and notes -/

/-- The credit view: credit / 4 with the remainder dropped toward zero, then held in
−32,768..32,767 µs (R60). -/
def creditView (credit : Int) : Int := max (-32768) (min (Int.tdiv credit 4) 32767)

/-- The estimate view: estimate / 4 rounded up, in µs (R61). -/
def estimateView (estimate : Nat) : Nat := (estimate + 3) / 4

/-- The MATCHED note (R167). -/
def matchedNote (n : StationId) (seq : BitVec 8) (credit : Int) (floor : Bool) : Word :=
  wordOf (2 ^ 31 + floor.toNat * 2 ^ 30 + n.val * 2 ^ 21 + seq.toNat % 32 * 2 ^ 16
    + (BitVec.ofInt 16 (creditView credit)).toNat)

/-- The LATE note (R167). -/
def lateNote (n : StationId) : Word := wordOf (n.val * 2 ^ 21 + 1 * 2 ^ 16)

/-- The UNMATCHED note (R167). -/
def unmatchedNote : Word := wordOf (2 * 2 ^ 16)

/-- The FRAMING note (R167). -/
def framingNote : Word := wordOf (3 * 2 ^ 16)

/-! ### Answers to ring reads (R103, section 10.7) -/

/-- The four words of a grant (R103, section 10.7). -/
def grantWords (g : Grant) : List Word :=
  [ wordOf (2 ^ 31 + g.entry.owner.val * 2 ^ 20 + g.seq.toNat * 2 ^ 12),
    g.entry.addr,
    wordOf (g.entry.len % 2 ^ 14),
    wordOf (estimateView g.estimate % 2 ^ 14 + g.clamped.toNat * 2 ^ 31) ]

/-- The empty answer: four words of 0 (R103). -/
def emptyAnswer : List Word := [0, 0, 0, 0]

/-! ### Probe snapshots (section 10.6) -/

/-- The number of a lane's issued grants that name a station. -/
def issuedCount (x : Lane) (n : StationId) : Nat := x.issued.countP (fun g => g.entry.owner == n)

/-- The entry staged for a station by its shadow's lane, if one is (R81, R94). -/
def stagedFor (s : State) (n : StationId) : Option PoolEntry :=
  match (s.lane (s.entry n).shadow.lane).staged with
  | some e => if e.owner = n then some e else none
  | none => none

/-- Words 1 to 7 of a STATION snapshot (R162, section 10.6). -/
def stationSnapshot (s : State) (n : StationId) : List Word :=
  let e := s.entry n
  let x := e.shadow
  let a := s.account n
  [ wordOf (ResultCode.accepted.code + e.lifecycle.code * 2 ^ 4 + e.held.toNat * 2 ^ 6 + e.dozing.toNat * 2 ^ 7
      + laneBit x.lane * 2 ^ 8 + classCode x.mode.serviceClass * 2 ^ 9 + (x.mode == .group).toNat * 2 ^ 10
      + (stagedFor s n).isSome.toNat * 2 ^ 11 + a.floorReached.toNat * 2 ^ 12 + lastOutcomeCode a.lastOutcome * 2 ^ 13
      + issuedCount (s.lane x.lane) n % 8 * 2 ^ 16 + x.kind.code * 2 ^ 20 + x.mode.code * 2 ^ 22
      + (s.queue n).length % 256 * 2 ^ 24),
    wordOf (x.rate % 2 ^ 13 + x.weight % 256 * 2 ^ 16 + x.depthLimit % 256 * 2 ^ 24),
    wordOf (x.ceiling % 2 ^ 16),
    BitVec.ofInt 32 a.credit,
    wordOf (a.reservation % 2 ^ 17),
    0,
    0 ]

/-- The word of one issued grant in a LANE snapshot; 0 beyond the issued count (R163, section 10.6). -/
def issuedWord (x : Lane) (k : Nat) : Word :=
  match x.issued[k]? with
  | some g => wordOf (g.slot.val + g.seq.toNat * 2 ^ 8 + g.entry.owner.val * 2 ^ 16)
  | none => 0

/-- The radio source number of a lane (R141). -/
def State.radioSource (s : State) : LaneId → BitVec 4
  | .a => s.radioA
  | .b => s.radioB

/-- Words 1 to 7 of a LANE snapshot (R163, section 10.6). -/
def laneSnapshot (s : State) (l : LaneId) : List Word :=
  let x := s.lane l
  [ wordOf (ResultCode.accepted.code + x.laneState.code * 2 ^ 4 + phaseCode x.phase * 2 ^ 6 + x.mode.code * 2 ^ 8
      + x.sweeping.toNat * 2 ^ 10 + x.owed.toNat * 2 ^ 11 + x.issued.length % 8 * 2 ^ 12 + x.position.val * 2 ^ 16
      + (s.radioSource l).toNat * 2 ^ 24),
    wordOf (x.expected.val + x.nextSeq.toNat * 2 ^ 8 +
      (match x.staged with
       | some e => e.owner.val * 2 ^ 16 + 2 ^ 31
       | none => 0)),
    issuedWord x 0,
    issuedWord x 1,
    issuedWord x 2,
    issuedWord x 3,
    0 ]

/-- Words 1 to 7 of a POOL snapshot (R163, section 10.6). -/
def poolSnapshot (s : State) : List Word :=
  [ wordOf ResultCode.accepted.code,
    wordOf (s.free.length % 8192 + s.watermark % 8192 * 2 ^ 16),
    wordOf (s.leastFree % 8192),
    0, 0, 0, 0 ]

/-- Words 1 to 7 of an ATTENTION snapshot (R161, section 10.6). -/
def attentionSnapshot (s : State) : List Word :=
  [ wordOf (ResultCode.accepted.code + s.attnLow.toNat * 2 ^ 4),
    wordOf s.latched.toNat,
    wordOf s.enabled.toNat,
    0, 0, 0, 0 ]

/-- Words 1 to 7 of a refused probe (R160). -/
def badProbeSnapshot : List Word := [wordOf ResultCode.badProbe.code, 0, 0, 0, 0, 0, 0]

end Sys2Proof.Machine
end

