-- ==== Sys2Proof/Machine/Ops.lean ====
section
/-! DEFINITION. The operations that several commands share: the link, the free stack, the account, the
staged slot, the lane timers, the end of a grant. -/

namespace Sys2Proof.Machine

open Sys2Proof

/-! ### The link (R139, R148, R149) -/

/-- The request leaves downstream once and its response is awaited; `answer` holds the words that will
replace memory's, for a substituted ring read (R139, R149). -/
def State.send (s : State) (r : Request) (answer : Option (List Word)) : State :=
  { s with down := s.down ++ [r], outstanding := s.outstanding ++ [{ req := r, answer := answer }] }

/-- A request that passes, or a write that goes on with its replaced words. -/
def State.forward (s : State) (r : Request) : State := s.send r none

/-- A request with word `k` of its data replaced (R148). -/
def replaceWord (r : Request) (k : Nat) (w : Word) : Request := { r with data := r.data.set k w }

/-- A probe write with words 1 to 7 replaced by a snapshot (R148, R159). -/
def replaceSnapshot (r : Request) (snapshot : List Word) : Request := { r with data := reqWord r 0 :: snapshot }

/-! ### The descriptor pool (R24) -/

/-- The free count. -/
def State.freeCount (s : State) : Nat := s.free.length

/-- A push places a freed entry on top of the free stack (R24, R40). -/
def State.pushFree (s : State) (id : Nat) : State := s.setFree (id :: s.free)

/-- Entries pushed one after another, the first of the list first (R24). -/
def State.pushAll (s : State) (es : List PoolEntry) : State :=
  es.foldl (fun t e => t.pushFree e.id) s

/-- A pop takes the top entry off the free stack, and the Probe Unit lowers the least free count to the
new free count where that lies below it (R24, R163). -/
def State.popFree (s : State) : State :=
  { s with free := s.free.tail, leastFree := min s.leastFree s.free.tail.length }

/-! ### Accounts (chapter 3) -/

/-- The ceiling the Account Unit applies to a station, in AU (R46). -/
def ceilingAU (x : Shadow) : Int := Config.auPerMicrosecond * x.ceiling

/-- The base of an estimate: 64 × length / rate rounded up (R48). -/
def estimateBase (len rate : Nat) : Nat := (64 * len + rate - 1) / rate

/-- The estimate of a grant, in AU (R48). -/
def estimateOf (len rate overhead : Nat) : Nat := min (estimateBase len rate + overhead) Config.estimateMax

/-- ESTIMATE_CLAMPED (R48). -/
def estimateClamped (len rate overhead : Nat) : Bool := decide (Config.estimateMax < estimateBase len rate + overhead)

/-- The pre-charge of one account: the credit falls by the estimate down to the floor, the reservation
rises by it (R50, R51). -/
def Account.preCharge (a : Account) (estimate : Nat) : Account :=
  let c := a.credit - estimate
  { a with
    credit := max c Config.creditFloor
    floorReached := a.floorReached || decide (c ≤ Config.creditFloor)
    reservation := a.reservation + estimate }

/-- The corrected credit before the floor is applied: credit plus estimate minus the actual airtime as
one sum, held at the ceiling (R52). -/
def correctedSum (a : Account) (ceiling : Int) (estimate airtime : Nat) : Int :=
  min (a.credit + estimate - Config.auPerMicrosecond * airtime) ceiling

/-- The correction of one account at a matched completion (R51, R52, R59). -/
def Account.correct (a : Account) (ceiling : Int) (estimate airtime : Nat) (outcome : FrameOutcome) : Account :=
  let c := correctedSum a ceiling estimate airtime
  { credit := max c Config.creditFloor
    floorReached := a.floorReached || decide (c ≤ Config.creditFloor)
    reservation := a.reservation - estimate
    lastOutcome := some outcome }

/-- The refill of one account: credit plus weight × quantum, held at the ceiling (R56). -/
def Account.refill (a : Account) (x : Shadow) (quantum : Nat) : Account :=
  { a with credit := min (a.credit + x.weight * quantum) (ceilingAU x) }

/-- The credit clamp of a ceiling rewrite (R10). -/
def Account.clampTo (a : Account) (ceiling : Int) : Account := { a with credit := min a.credit ceiling }

/-- An account as a transition to Absent leaves it: credit 0, floor-reached flag clear (R18, R58). -/
def Account.close (a : Account) : Account := { a with credit := 0, floorReached := false }

/-- An account as a scheduler clear leaves it: the last outcome is kept (R63). -/
def Account.clear (a : Account) : Account := { a with credit := 0, reservation := 0, floorReached := false }

/-- A refill visit reaches this station: it is Active, its shadow names the lane and it belongs to the
group (R56). -/
def refilled (s : State) (l : LaneId) (g : Fin 32) (n : StationId) : Bool :=
  (s.entry n).lifecycle == .active && (s.entry n).shadow.lane == l && n.val / 16 == g.val

/-- A table made entry by entry. -/
@[irreducible] def tabulate {α : Type} {k : Nat} (f : Fin k → α) : Vector α k := ⟨(List.ofFn f).toArray, by simp⟩

/-- The refill of one group of a lane's stations (R56). -/
def refillGroup (l : LaneId) (g : Fin 32) (s : State) : State :=
  { s with accounts := tabulate (fun n =>
      if refilled s l g n then (s.account n).refill (s.entry n).shadow (s.lane l).quantum else s.account n) }

/-! ### Lifecycle (R18) -/

/-- The transition to Absent: credit 0 and floor-reached flag clear, shadow and last outcome kept (R18). -/
def becomeAbsent (n : StationId) (s : State) : State :=
  (s.setEntry n { s.entry n with lifecycle := .absent }).setAccount n (s.account n).close

/-! ### The staged slot (R94) -/

/-- The lane's staged slot emptied. -/
def clearStaged (l : LaneId) (s : State) : State := s.setLane l { s.lane l with staged := none }

/-- An entry returned to the head of its owner's queue (R26). -/
def returnToHead (e : PoolEntry) (s : State) : State := s.setQueue e.owner (e :: s.queue e.owner)

/-- Withdrawal of a station's staged grant to its queue head, where one is staged for it (R95). -/
def withdrawToHead (n : StationId) (s : State) : State :=
  match stagedFor s n with
  | some e => returnToHead e (clearStaged (s.entry n).shadow.lane s)
  | none => s

/-- Withdrawal of a lane's staged grant to its station's queue head, as the lane leaves Running (R95). -/
def withdrawLane (l : LaneId) (s : State) : State :=
  match (s.lane l).staged with
  | some e => returnToHead e (clearStaged l s)
  | none => s

/-- Withdrawal of a station's staged grant onto the free stack, where one is staged for it (R96). -/
def withdrawToFree (n : StationId) (s : State) : State :=
  match stagedFor s n with
  | some e => (clearStaged (s.entry n).shadow.lane s).pushFree e.id
  | none => s

/-- The backlog of a station freed: the staged entry first, then the queue from head to tail (R15, R34). -/
def freeBacklog (n : StationId) (s : State) : State :=
  let t := withdrawToFree n s
  (t.pushAll (t.queue n)).setQueue n []

/-! ### Lane timers (chapter 4) -/

/-- The period of a timer setting in µs: (preset + 1) × prescale (R66). -/
def TimerSetting.period (t : TimerSetting) : Nat := (t.preset + 1) * 2 ^ (t.code + 1)

/-- The class that is not this one. -/
def ServiceClass.other : ServiceClass → ServiceClass
  | .reserved => .shared
  | .shared => .reserved

/-- The current phase set, its timer started with a full period and the other phase's timer stopped
(R69, R76, R77, R80). -/
def Lane.startPhase (x : Lane) (p : ServiceClass) : Lane :=
  match p with
  | .reserved => { x with phase := .reserved, reservedTimer := some x.reservedSetting.period, sharedTimer := none }
  | .shared => { x with phase := .shared, sharedTimer := some x.sharedSetting.period, reservedTimer := none }

/-- The current phase set and both phase timers stopped (R69, R77). -/
def Lane.fixPhase (x : Lane) (p : ServiceClass) : Lane :=
  { x with phase := p, reservedTimer := none, sharedTimer := none }

/-- A sweep in progress discarded and the refill-owed flag cleared (R71, R75). -/
def Lane.discardSweep (x : Lane) : Lane := { x with sweeping := false, position := 0, owed := false, visitDue := false }

/-- The timers of a lane that becomes Off (R71). -/
def Lane.stopTimers (x : Lane) : Lane := { (x.fixPhase .reserved).discardSweep with refillTimer := none }

/-- A lane becomes Off (R71, R106, R108). -/
def Lane.goOff (x : Lane) : Lane := { x.stopTimers with laneState := .off }

/-- The phase and phase timers a phase mode gives at the enable of an Off lane (R69). -/
def Lane.enterMode (x : Lane) : Lane :=
  match x.mode with
  | .alternate => x.startPhase .reserved
  | .reservedOnly => x.fixPhase .reserved
  | .sharedOnly => x.fixPhase .shared

/-- An Off lane becomes Running at a start slot (R69, R105). -/
def Lane.enable (x : Lane) (start : Slot) : Lane :=
  { x.enterMode.discardSweep with
    refillTimer := some x.refillSetting.period
    laneState := .running
    expected := start
    nextSeq := 0 }

/-- The change of phase mode of a Running or Draining lane (R77). -/
def Lane.changeMode (x : Lane) (m : PhaseMode) : Lane :=
  if m = x.mode then x
  else match m with
    | .alternate => ({ x with mode := m } : Lane).startPhase x.phase
    | .reservedOnly => ({ x with mode := m } : Lane).fixPhase .reserved
    | .sharedOnly => ({ x with mode := m } : Lane).fixPhase .shared

/-- The settings of a lane control record taken: quantum and overhead, the four timer settings, then the
phase mode, which acts at once unless the lane is Off (R47, R67, R77, R155). -/
def Lane.takeSettings (x : Lane) (r : LaneRecord) : Lane :=
  let y := { x with
    quantum := clampQuantum r.quantum
    overhead := clampOverhead r.overhead
    reservedSetting := clampTimer r.reserved
    sharedSetting := clampTimer r.shared
    refillSetting := clampTimer r.refill
    timeoutSetting := clampTimer r.timeout }
  match x.laneState with
  | .off => { y with mode := phaseModeOfCode r.modeCode }
  | .running => y.changeMode (phaseModeOfCode r.modeCode)
  | .draining => y.changeMode (phaseModeOfCode r.modeCode)

/-- A lane as a scheduler clear leaves it (R80, R100, R121). -/
def Lane.clear (x : Lane) : Lane :=
  let y := { x.discardSweep with
    staged := none
    reservedPtr := 511
    sharedPtr := 511
    issued := []
    expired := Vector.replicate 64 none }
  if x.laneState ≠ .off ∧ x.mode = .alternate then y.startPhase .reserved else y

/-! ### The issued list (R109) -/

/-- The grant issued at a ring slot of a lane. -/
def Lane.grantAt (x : Lane) (k : Slot) : Option Grant := x.issued.find? (fun g => g.slot == k)

/-- A lane with the grant at a ring slot taken out of its issued list, the others in their order
(R126, R132). -/
def Lane.dropGrant (x : Lane) (k : Slot) : Lane := { x with issued := x.issued.eraseP (fun g => g.slot == k) }

/-- The issued list has room: fewer than four grants, and none at the slot four before the expected slot
(R111). -/
def Lane.hasRoom (x : Lane) : Bool :=
  decide (x.issued.length < Config.maxIssued) && !x.issued.any (fun g => g.slot == x.expected + 60)

/-- A grant leaves the issued list and its entry goes back onto the free stack (R40, R126, R132). -/
def releaseGrant (l : LaneId) (g : Grant) (s : State) : State :=
  (s.setLane l ((s.lane l).dropGrant g.slot)).pushFree g.entry.id

/-- A Retiring station none of whose grants is left in its lane's issued list becomes Absent (R18, R127). -/
def retireIfLast (l : LaneId) (n : StationId) (s : State) : State :=
  if (s.entry n).lifecycle = .retiring ∧ issuedCount (s.lane l) n = 0 then becomeAbsent n s else s

/-- A Draining lane whose issued list is empty becomes Off (R108). -/
def drainIfEmpty (l : LaneId) (s : State) : State :=
  if (s.lane l).laneState = .draining ∧ (s.lane l).issued = [] then s.setLane l (s.lane l).goOff else s

end Sys2Proof.Machine
end

