-- ==== Sys2Proof/Machine/Control.lean ====
section
/-! DEFINITION. The global and lane control records, the scheduler clear and the two reset commands
(chapters 4, 6, 8 and 9). -/

namespace Sys2Proof.Machine

open Sys2Proof

/-! ### The global control record (section 9.1) -/

/-- A global control record refused with MAP_CONFLICT: RECORD_REFUSED latches and nothing else changes
(R151). -/
def refuseGlobal (r : Request) (s : State) : State :=
  (s.latch .recordRefused).forward (replaceWord r 7 (globalResult .mapConflict false false))

/-- WATERMARK_CLAMPED (R152). -/
def watermarkClamped (r : Request) : Bool := decide (Config.watermarkMax < globalWatermark r)

/-- The three settings of an accepted global control record (R152). -/
def takeGlobalSettings (r : Request) (s : State) : State :=
  { s with
    radioA := globalRadioA r
    radioB := globalRadioB r
    watermark := min (globalWatermark r) Config.watermarkMax
    enabled := globalEnables r }

/-- The result word of an accepted global control record (R152). -/
def globalAccepted (r : Request) (cleared : Bool) : Word :=
  globalResult (acceptedCode (watermarkClamped r)) (watermarkClamped r) cleared

/-- GLOBAL_CONTROL_WRITE: refused where the two source numbers are equal, else its settings taken
(R151, R152). -/
def takeGlobalControl (r : Request) (s : State) : State :=
  if globalRadioA r = globalRadioB r then refuseGlobal r s
  else (takeGlobalSettings r s).forward (replaceWord r 7 (globalAccepted r false))

/-- A scheduler clear (R153): queues, grants and accounts at their starting state, the free stack rebuilt
in its reset order, Retiring stations Absent; settings, lane states and latched causes kept. -/
def schedulerClear (s : State) : State :=
  { s with
    free := resetFree
    queues := Vector.replicate 512 []
    accounts := tabulate (fun n => (s.account n).clear)
    table := tabulate (fun n =>
      if (s.entry n).lifecycle = .retiring then { s.entry n with lifecycle := .absent } else s.entry n)
    laneA := s.laneA.clear
    laneB := s.laneB.clear }

/-- SCHEDULER_CLEAR: an accepted global control record with the clear field set performs the clear after
its settings have been taken (R152, R153). -/
def takeSchedulerClear (r : Request) (s : State) : State :=
  (schedulerClear (takeGlobalSettings r s)).forward (replaceWord r 7 (globalAccepted r true))

/-! ### The lane control records (section 9.3) -/

/-- A lane control record write sent on with its result word in word 7 (R155). -/
def answerLane (l : LaneId) (r : Request) (s : State) : State :=
  s.forward (replaceWord r 7 (laneResult (readLaneRecord r) (s.lane l).laneState))

/-- The settings of a lane control record taken by the named lane (R155). -/
def takeLaneSettings (l : LaneId) (r : Request) (s : State) : State :=
  s.setLane l ((s.lane l).takeSettings (readLaneRecord r))

/-- The enable of a lane: an Off lane starts at the write's start slot, a Draining lane resumes as it
stands, a Running lane goes on (R104, R105, R107). -/
def applyEnable (l : LaneId) (r : Request) (s : State) : State :=
  let x := s.lane l
  match x.laneState with
  | .off => s.setLane l (x.enable (clampStart (readLaneRecord r).start))
  | .running => s
  | .draining => s.setLane l { x with laneState := .running }

/-- The disable of a lane: a Running lane gives its staged grant back and becomes Draining, or Off where it
has no issued grants; a Draining lane without issued grants becomes Off (R104, R106, R108). -/
def applyDisable (l : LaneId) (s : State) : State :=
  let x := s.lane l
  match x.laneState with
  | .off => s
  | .running =>
    let t := withdrawLane l s
    if x.issued = [] then t.setLane l (t.lane l).goOff
    else t.setLane l { t.lane l with laneState := .draining }
  | .draining => if x.issued = [] then s.setLane l x.goOff else s

/-- LANE_ENABLE (R105, R155). -/
def takeLaneEnable (l : LaneId) (r : Request) (s : State) : State :=
  answerLane l r (applyEnable l r (takeLaneSettings l r s))

/-- LANE_DISABLE (R106, R155). -/
def takeLaneDisable (l : LaneId) (r : Request) (s : State) : State :=
  answerLane l r (applyDisable l (takeLaneSettings l r s))

/-! ### Reset -/

/-- POWER_ON_RESET: every block in its reset state; what the link already carries is kept (R20, R150). -/
def takePowerOnReset (s : State) : State :=
  { State.reset with down := s.down, outstanding := s.outstanding, up := s.up, pending := s.pending }

/-- The window base the straps select: WBASE × 16 MiB (R142). -/
def baseOfStraps (wbase : BitVec 8) : Word := BitVec.ofNat 32 (wbase.toNat * 2 ^ 24)

/-- RESET_END: the window base is sampled; while the part is out of reset the straps have no effect
(R142). -/
def takeResetEnd (wbase : BitVec 8) (s : State) : State :=
  match s.base with
  | none => { s with base := some (baseOfStraps wbase) }
  | some _ => s

/-- The meaning of POWER_ON_RESET. -/
def execPowerOnReset (s : State) : Out := .next (takePowerOnReset s)

/-- The meaning of RESET_END. -/
def execResetEnd (wbase : BitVec 8) (s : State) : Out := .next (takeResetEnd wbase s)

end Sys2Proof.Machine
end

