-- ==== Sys2Proof/Machine/Posts.lean ====
section
/-! DEFINITION. The post slot commands (chapter 2). Each takes the station whose post slot is written and
the request that writes it, and answers the state with the request sent on downstream, its result word
replaced. -/

namespace Sys2Proof.Machine

open Sys2Proof

/-- A post slot write sent on with its result word in word 3: the code, the station's queue depth and the
free count as the command leaves them (R27, R29). -/
def answerPost (code : ResultCode) (n : StationId) (r : Request) (s : State) : State :=
  s.forward (replaceWord r 3 (postResult code (s.queue n).length s.freeCount))

/-- A refused post slot command: POST_REFUSED latches and nothing else changes (R29). -/
def refusePost (code : ResultCode) (n : StationId) (r : Request) (s : State) : State :=
  answerPost code n r (s.latch .postRefused)

/-- The checks shared by every known command: NO_STATION for an Absent station, RETIRING for a Retiring
one (R30, R34 to R38). -/
def lifecycleCheck (s : State) (n : StationId) : Option ResultCode :=
  match (s.entry n).lifecycle with
  | .absent => some .noStation
  | .retiring => some .retiring
  | .active => none

/-- The backlog of a station: its queue depth, plus 1 if a grant is staged for it (R25). -/
def backlog (s : State) (n : StationId) : Nat := (s.queue n).length + (stagedFor s n).isSome.toNat

/-- The checks of a POST in order; `none` is ACCEPTED (R30). -/
def postCheck (s : State) (n : StationId) (len : Nat) : Option ResultCode :=
  match lifecycleCheck s n with
  | some c => some c
  | none =>
    if len = 0 then some .badLength
    else if (s.entry n).shadow.depthLimit ≤ backlog s n then some .stationFull
    else if s.freeCount = 0 then some .poolEmpty
    else none

/-- The pool entry an accepted POST fills (R28, R31). -/
def postedEntry (n : StationId) (r : Request) (s : State) : PoolEntry :=
  { id := s.free.headD 0, addr := postAddr r, len := postLen r, owner := n }

/-- An accepted POST pops the top entry, fills it and appends it at the tail of the queue (R31). -/
def appendPost (n : StationId) (r : Request) (s : State) : State :=
  s.popFree.setQueue n (s.queue n ++ [postedEntry n r s])

/-- The dozing flag of a station set or cleared (R19). -/
def setDozing (n : StationId) (b : Bool) (s : State) : State := s.setEntry n { s.entry n with dozing := b }

/-- The held flag of a station set or cleared (R19). -/
def setHeld (n : StationId) (b : Bool) (s : State) : State := s.setEntry n { s.entry n with held := b }

/-- Wake-on-post clears the dozing flag after the entry has been appended (R32). -/
def wakeOnPost (n : StationId) (r : Request) (s : State) : State := if postWake r then setDozing n false s else s

/-- The accepted POST takes the free count from a value at or above the watermark to one below it (R33). -/
def crossesLow (s : State) : Bool := decide (s.watermark ≤ s.freeCount ∧ s.freeCount - 1 < s.watermark)

/-- POST (R30 to R33). -/
def takePost (n : StationId) (r : Request) (s : State) : State :=
  match postCheck s n (postLen r) with
  | some c => refusePost c n r s
  | none => answerPost .accepted n r ((wakeOnPost n r (appendPost n r s)).latchIf (crossesLow s) .poolLow)

/-- FLUSH (R34). -/
def takeFlush (n : StationId) (r : Request) (s : State) : State :=
  match lifecycleCheck s n with
  | some c => refusePost c n r s
  | none => answerPost .accepted n r (freeBacklog n s)

/-- HOLD (R35). -/
def takeHold (n : StationId) (r : Request) (s : State) : State :=
  match lifecycleCheck s n with
  | some c => refusePost c n r s
  | none => answerPost .accepted n r (withdrawToHead n (setHeld n true s))

/-- RELEASE (R36). -/
def takeRelease (n : StationId) (r : Request) (s : State) : State :=
  match lifecycleCheck s n with
  | some c => refusePost c n r s
  | none => answerPost .accepted n r (setHeld n false s)

/-- DOZE; a group station refuses it with BAD_COMMAND (R37). -/
def takeDoze (n : StationId) (r : Request) (s : State) : State :=
  match lifecycleCheck s n with
  | some c => refusePost c n r s
  | none =>
    if (s.entry n).shadow.mode = .group then refusePost .badCommand n r s
    else answerPost .accepted n r (withdrawToHead n (setDozing n true s))

/-- WAKE (R38). -/
def takeWake (n : StationId) (r : Request) (s : State) : State :=
  match lifecycleCheck s n with
  | some c => refusePost c n r s
  | none => answerPost .accepted n r (setDozing n false s)

/-- BAD_COMMAND: an unknown command code, whatever the station's state (R28). -/
def takeBadCommand (n : StationId) (r : Request) (s : State) : State := refusePost .badCommand n r s

end Sys2Proof.Machine
end

