-- ==== Sys2Proof/Machine/Probes.lean ====
section
/-! DEFINITION. The probe block (section 9.5). Each probe sends its write on with words 1 to 7 replaced by
a snapshot of the state as it stood when the write was taken (R159). -/

namespace Sys2Proof.Machine

open Sys2Proof

/-- STATION_PROBE (R162). -/
def takeStationProbe (n : StationId) (r : Request) (s : State) : State :=
  s.forward (replaceSnapshot r (stationSnapshot s n))

/-- LANE_PROBE (R163). -/
def takeLaneProbe (l : LaneId) (r : Request) (s : State) : State :=
  s.forward (replaceSnapshot r (laneSnapshot s l))

/-- POOL_PROBE: after the snapshot the least free count is set to the free count (R163). -/
def takePoolProbe (r : Request) (s : State) : State :=
  ({ s with leastFree := s.freeCount } : State).forward (replaceSnapshot r (poolSnapshot s))

/-- ATTENTION_PROBE: after the snapshot the latched set is empty (R161). -/
def takeAttentionProbe (r : Request) (s : State) : State :=
  ({ s with latched := 0 } : State).forward (replaceSnapshot r (attentionSnapshot s))

/-- BAD_PROBE: RECORD_REFUSED latches and nothing else changes (R160). -/
def takeBadProbe (r : Request) (s : State) : State :=
  (s.latch .recordRefused).forward (replaceSnapshot r badProbeSnapshot)

end Sys2Proof.Machine
end

