-- ==== Sys2Proof/Machine/Rings.lean ====
section
/-! DEFINITION. The Grant Tracker's ring reads and completions (chapters 6 and 7). -/

namespace Sys2Proof.Machine

open Sys2Proof

/-! ### Ring reads (section 6.4) -/

/-- A ring read that the part answers with its own words (R103, R149). -/
def answerRead (r : Request) (words : List Word) (s : State) : State := s.send r (some words)

/-- The grant the issue of a staged entry makes (R48, R78, R112). -/
def newGrant (l : LaneId) (e : PoolEntry) (s : State) : Grant :=
  let x := s.lane l
  let rate := (s.entry e.owner).shadow.rate
  { entry := e
    seq := x.nextSeq
    slot := x.expected
    estimate := estimateOf e.len rate x.overhead
    clamped := estimateClamped e.len rate x.overhead
    deadline := s.count + BitVec.ofNat 32 x.timeoutSetting.period }

/-- A pre-charge that leaves the credit at the floor latches CREDIT_FLOOR (R50, R51). -/
def preChargeStation (n : StationId) (estimate : Nat) (s : State) : State :=
  (s.setAccount n ((s.account n).preCharge estimate)).latchIf
    (decide ((s.account n).credit - estimate ≤ Config.creditFloor)) .creditFloor

/-- A lane as an issue leaves it: the staged slot empty, the grant at the tail of the issued list, the
expired-grant memory of its slot cleared, the expected slot and the next sequence advanced (R112). -/
def Lane.issue (x : Lane) (g : Grant) : Lane :=
  { x with
    staged := none
    issued := x.issued ++ [g]
    expired := x.expired.set g.slot none
    expected := x.expected + 1
    nextSeq := x.nextSeq + 1 }

/-- The issue of a staged entry (R112). -/
def issueGrant (l : LaneId) (e : PoolEntry) (s : State) : State :=
  let g := newGrant l e s
  preChargeStation e.owner g.estimate (s.setLane l ((s.lane l).issue g))

/-- A whole read of the expected slot: the staged grant issues where the list has room, else the answer is
empty (R111 rows 1 and 2, R113). -/
def readExpected (l : LaneId) (r : Request) (s : State) : State :=
  match (s.lane l).staged with
  | some e =>
    if (s.lane l).hasRoom then answerRead r (grantWords (newGrant l e s)) (issueGrant l e s)
    else answerRead r emptyAnswer s
  | none => answerRead r emptyAnswer s

/-- RING_READ of slot `k` by the lane's own radio (R111, R116, R118, R119). -/
def takeRingRead (l : LaneId) (k : Slot) (whole : Bool) (r : Request) (s : State) : State :=
  let x := s.lane l
  match x.laneState, whole with
  | .off, _ => s.forward r
  | .running, false => (s.latch .ringOrder).forward r
  | .draining, false => (s.latch .ringOrder).forward r
  | .running, true =>
    if k = x.expected then readExpected l r s
    else
      match x.grantAt k with
      | some g => answerRead r (grantWords g) s
      | none => answerRead r emptyAnswer (s.latch .ringOrder)
  | .draining, true =>
    match x.grantAt k with
    | some g => answerRead r (grantWords g) s
    | none => answerRead r emptyAnswer s

/-! ### Completions (section 7.2) -/

/-- A completion sent on with its note in word 3 (R122, R148). -/
def answerCompletion (r : Request) (note : Word) (s : State) : State := s.forward (replaceWord r 3 note)

/-- The correction of a station's account at a matched completion; it latches CREDIT_FLOOR where it leaves
the credit at the floor (R51, R52). -/
def correctStation (g : Grant) (airtime : Nat) (outcome : FrameOutcome) (s : State) : State :=
  let n := g.entry.owner
  let ceiling := ceilingAU (s.entry n).shadow
  (s.setAccount n ((s.account n).correct ceiling g.estimate airtime outcome)).latchIf
    (decide (correctedSum (s.account n) ceiling g.estimate airtime ≤ Config.creditFloor)) .creditFloor

/-- A matched completion ends its grant, in the order of R126; the note carries the figures the correction
left. -/
def matchedCompletion (l : LaneId) (g : Grant) (outcome : FrameOutcome) (r : Request) (s : State) : State :=
  let t := correctStation g (completionAirtime r) outcome s
  let a := t.account g.entry.owner
  answerCompletion r (matchedNote g.entry.owner g.seq a.credit a.floorReached)
    (drainIfEmpty l (retireIfLast l g.entry.owner (releaseGrant l g t)))

/-- A late completion: the note names the station of the expired grant, and LATE_COMPLETION latches (R129). -/
def lateCompletion (x : ExpiredRecord) (r : Request) (s : State) : State :=
  answerCompletion r (lateNote x.station) (s.latch .lateCompletion)

/-- An unmatched completion: COMPLETION_UNMATCHED latches (R130). -/
def unmatchedCompletion (r : Request) (s : State) : State :=
  answerCompletion r unmatchedNote (s.latch .completionUnmatched)

/-- A whole, well-formed completion of slot `k`, classified by R125. -/
def classifyCompletion (l : LaneId) (k : Slot) (outcome : FrameOutcome) (r : Request) (s : State) : State :=
  match (s.lane l).grantAt k with
  | some g => if reqWord r 1 = g.entry.addr then matchedCompletion l g outcome r s else unmatchedCompletion r s
  | none =>
    match (s.lane l).expired[k] with
    | some x => if reqWord r 1 = x.addr then lateCompletion x r s else unmatchedCompletion r s
    | none => unmatchedCompletion r s

/-- COMPLETION of slot `k` by the lane's own radio: unannotated in an Off lane; else checked for a framing
fault and classified (R122, R123, R125, R136). -/
def takeCompletion (l : LaneId) (k : Slot) (whole : Bool) (r : Request) (s : State) : State :=
  if (s.lane l).laneState = .off then s.forward r
  else if whole = false then (s.latch .completionFraming).forward r
  else
    match completionOwner r, completionOutcome r with
    | false, some outcome => classifyCompletion l k outcome r s
    | _, _ => answerCompletion r framingNote (s.latch .completionFraming)

end Sys2Proof.Machine
end

