-- ==== Sys2Proof/Machine/Stations.lean ====
section
/-! DEFINITION. The Station Table's record writes and removal requests (chapter 1). Each takes the station
whose record is written and the request that writes it, and answers the state with the request sent on
downstream, its result word replaced. -/

namespace Sys2Proof.Machine

open Sys2Proof

/-- A station record write sent on with its result word in word 7 (R1, R148). -/
def answerStation (r : Request) (w : Word) (s : State) : State := s.forward (replaceWord r 7 w)

/-- A refused station record write: RECORD_REFUSED latches and nothing else changes (R2, R7). -/
def refuseStation (code : ResultCode) (r : Request) (s : State) : State :=
  answerStation r (stationPlain code (readStationRecord r)) (s.latch .recordRefused)

/-- The station has backlog that refuses a lane change: queued entries, a staged grant or issued grants in
its current lane (R11). -/
def hasBacklog (s : State) (n : StationId) : Bool :=
  !(s.queue n).isEmpty || (stagedFor s n).isSome || issuedCount (s.lane (s.entry n).shadow.lane) n != 0

/-- Activation of an Absent entry: the shadow taken, flags clear, the account started afresh (R8). -/
def activateStation (n : StationId) (x : Shadow) (s : State) : State :=
  (s.setEntry n { lifecycle := .active, held := false, dozing := false, shadow := x }).setAccount n
    { credit := 0, reservation := 0, floorReached := false, lastOutcome := none }

/-- Rewrite of an Active entry: the shadow taken, the held flag kept, the dozing flag cleared for a group
station, the credit clamped to a lowered ceiling (R9, R10, R14). -/
def rewriteStation (n : StationId) (x : Shadow) (s : State) : State :=
  (s.setEntry n { s.entry n with shadow := x, dozing := (s.entry n).dozing && x.mode != .group }).setAccount n
    ((s.account n).clampTo (ceilingAU x))

/-- STATION_RECORD_WRITE: the interrogation of R2. -/
def takeStationRecord (n : StationId) (r : Request) (s : State) : State :=
  let x := readStationRecord r
  match (s.entry n).lifecycle with
  | .retiring => refuseStation .busy r s
  | .absent =>
    if isRefusedCell x.kind x.mode then refuseStation .badKind r s
    else answerStation r (stationAccepted x) (activateStation n x.shadow s)
  | .active =>
    if isRefusedCell x.kind x.mode then refuseStation .badKind r s
    else if x.lane ≠ (s.entry n).shadow.lane ∧ hasBacklog s n then refuseStation .laneBusy r s
    else answerStation r (stationAccepted x) (rewriteStation n x.shadow s)

/-- Retirement of an Active station: its staged and queued entries freed, its flags cleared; it becomes
Absent at once where it has no issued grants, else Retiring (R15, R18). -/
def retireStation (n : StationId) (s : State) : State :=
  let t := freeBacklog n s
  let u := t.setEntry n { t.entry n with lifecycle := .retiring, held := false, dozing := false }
  retireIfLast (u.entry n).shadow.lane n u

/-- REMOVAL_REQUEST: checks 1 and 3 of R2 (R15, R16, R17). -/
def takeRemoval (n : StationId) (r : Request) (s : State) : State :=
  match (s.entry n).lifecycle with
  | .retiring => refuseStation .busy r s
  | .absent => answerStation r (stationPlain .accepted (readStationRecord r)) s
  | .active => answerStation r (stationPlain .accepted (readStationRecord r)) (retireStation n s)

end Sys2Proof.Machine
end

