-- ==== Sys2Proof/Machine/Link.lean ====
section
/-! DEFINITION. The packet-memory link (chapter 8): what happens to a request that arrives at the upstream
port, and the meaning of every row that is such a request. The request decides which row it is, by the
Window Decoder (`classify`). A command that carries a request of another row is still that request: it is
taken as what it is, since the link passes every request once (R139, log entry 3). -/

namespace Sys2Proof.Machine

open Sys2Proof

/-- PARTIAL_WRITE: the write passes and PARTIAL_WRITE latches (R147). -/
def takePartialWrite (r : Request) (s : State) : State := (s.latch .partialWrite).forward r

/-- PASS_THROUGH: the request passes unchanged and no owner takes it (R143, R146). -/
def takePassThrough (r : Request) (s : State) : State := s.forward r

/-- A request at the upstream port, handed to the owner its row names (R139, R146). -/
def takeRequest (r : Request) (s : State) : State :=
  match classify s r with
  | .stationRecord n => takeStationRecord n r s
  | .removal n => takeRemoval n r s
  | .post n => takePost n r s
  | .flush n => takeFlush n r s
  | .hold n => takeHold n r s
  | .release n => takeRelease n r s
  | .doze n => takeDoze n r s
  | .wake n => takeWake n r s
  | .badCommand n => takeBadCommand n r s
  | .globalControl => takeGlobalControl r s
  | .schedulerClear => takeSchedulerClear r s
  | .laneEnable l => takeLaneEnable l r s
  | .laneDisable l => takeLaneDisable l r s
  | .stationProbe n => takeStationProbe n r s
  | .laneProbe l => takeLaneProbe l r s
  | .poolProbe => takePoolProbe r s
  | .attentionProbe => takeAttentionProbe r s
  | .badProbe => takeBadProbe r s
  | .partialWrite => takePartialWrite r s
  | .passThrough => takePassThrough r s
  | .ringRead l k whole => takeRingRead l k whole r s
  | .completion l k whole => takeCompletion l k whole r s

/-- READ_RESPONSE: the response to the request at place `k` among those unanswered returns upstream with
the status memory gave; memory's words are replaced where the part answered the read itself (R139, R140,
R149). No request stands at a place beyond them, and no response exists for it. -/
def takeResponse (k : Nat) (status : Status) (words : List Word) (s : State) : State :=
  match s.outstanding[k]? with
  | some o =>
    { s with
      outstanding := s.outstanding.eraseIdx k
      up := s.up ++ [{ req := o.req, status := status, words := o.answer.getD words }] }
  | none => s

/-- The meaning of STATION_RECORD_WRITE (R2). -/
def execStationRecordWrite (r : Request) (s : State) : Out :=
  match classify s r with
  | .stationRecord n => .next (takeStationRecord n r s)
  | _ => .next (takeRequest r s)

/-- The meaning of REMOVAL_REQUEST (R15). -/
def execRemovalRequest (r : Request) (s : State) : Out :=
  match classify s r with
  | .removal n => .next (takeRemoval n r s)
  | _ => .next (takeRequest r s)

/-- The meaning of POST (R30). -/
def execPost (r : Request) (s : State) : Out :=
  match classify s r with
  | .post n => .next (takePost n r s)
  | _ => .next (takeRequest r s)

/-- The meaning of FLUSH (R34). -/
def execFlush (r : Request) (s : State) : Out :=
  match classify s r with
  | .flush n => .next (takeFlush n r s)
  | _ => .next (takeRequest r s)

/-- The meaning of HOLD (R35). -/
def execHold (r : Request) (s : State) : Out :=
  match classify s r with
  | .hold n => .next (takeHold n r s)
  | _ => .next (takeRequest r s)

/-- The meaning of RELEASE (R36). -/
def execRelease (r : Request) (s : State) : Out :=
  match classify s r with
  | .release n => .next (takeRelease n r s)
  | _ => .next (takeRequest r s)

/-- The meaning of DOZE (R37). -/
def execDoze (r : Request) (s : State) : Out :=
  match classify s r with
  | .doze n => .next (takeDoze n r s)
  | _ => .next (takeRequest r s)

/-- The meaning of WAKE (R38). -/
def execWake (r : Request) (s : State) : Out :=
  match classify s r with
  | .wake n => .next (takeWake n r s)
  | _ => .next (takeRequest r s)

/-- The meaning of BAD_COMMAND (R28). -/
def execBadCommand (r : Request) (s : State) : Out :=
  match classify s r with
  | .badCommand n => .next (takeBadCommand n r s)
  | _ => .next (takeRequest r s)

/-- The meaning of GLOBAL_CONTROL_WRITE (R152). -/
def execGlobalControlWrite (r : Request) (s : State) : Out :=
  match classify s r with
  | .globalControl => .next (takeGlobalControl r s)
  | _ => .next (takeRequest r s)

/-- The meaning of SCHEDULER_CLEAR (R153). -/
def execSchedulerClear (r : Request) (s : State) : Out :=
  match classify s r with
  | .schedulerClear => .next (takeSchedulerClear r s)
  | _ => .next (takeRequest r s)

/-- The meaning of LANE_ENABLE (R105). -/
def execLaneEnable (r : Request) (s : State) : Out :=
  match classify s r with
  | .laneEnable l => .next (takeLaneEnable l r s)
  | _ => .next (takeRequest r s)

/-- The meaning of LANE_DISABLE (R106). -/
def execLaneDisable (r : Request) (s : State) : Out :=
  match classify s r with
  | .laneDisable l => .next (takeLaneDisable l r s)
  | _ => .next (takeRequest r s)

/-- The meaning of STATION_PROBE (R162). -/
def execStationProbe (r : Request) (s : State) : Out :=
  match classify s r with
  | .stationProbe n => .next (takeStationProbe n r s)
  | _ => .next (takeRequest r s)

/-- The meaning of LANE_PROBE (R163). -/
def execLaneProbe (r : Request) (s : State) : Out :=
  match classify s r with
  | .laneProbe l => .next (takeLaneProbe l r s)
  | _ => .next (takeRequest r s)

/-- The meaning of POOL_PROBE (R163). -/
def execPoolProbe (r : Request) (s : State) : Out :=
  match classify s r with
  | .poolProbe => .next (takePoolProbe r s)
  | _ => .next (takeRequest r s)

/-- The meaning of ATTENTION_PROBE (R161). -/
def execAttentionProbe (r : Request) (s : State) : Out :=
  match classify s r with
  | .attentionProbe => .next (takeAttentionProbe r s)
  | _ => .next (takeRequest r s)

/-- The meaning of BAD_PROBE (R160). -/
def execBadProbe (r : Request) (s : State) : Out :=
  match classify s r with
  | .badProbe => .next (takeBadProbe r s)
  | _ => .next (takeRequest r s)

/-- The meaning of PARTIAL_WRITE (R147). -/
def execPartialWrite (r : Request) (s : State) : Out :=
  match classify s r with
  | .partialWrite => .next (takePartialWrite r s)
  | _ => .next (takeRequest r s)

/-- The meaning of PASS_THROUGH (R146). -/
def execPassThrough (r : Request) (s : State) : Out :=
  match classify s r with
  | .passThrough => .next (takePassThrough r s)
  | _ => .next (takeRequest r s)

/-- The meaning of RING_READ (R111). -/
def execRingRead (r : Request) (s : State) : Out :=
  match classify s r with
  | .ringRead l k whole => .next (takeRingRead l k whole r s)
  | _ => .next (takeRequest r s)

/-- The meaning of COMPLETION (R125). -/
def execCompletion (r : Request) (s : State) : Out :=
  match classify s r with
  | .completion l k whole => .next (takeCompletion l k whole r s)
  | _ => .next (takeRequest r s)

/-- The meaning of READ_RESPONSE (R149). -/
def execReadResponse (k : Nat) (status : Status) (words : List Word) (s : State) : Out :=
  .next (takeResponse k status words s)

end Sys2Proof.Machine
end

