-- ==== Sys2Proof/Machine/Selector.lean ====
section
/-! DEFINITION. The Grant Selector's staging decision (chapter 5). -/

namespace Sys2Proof.Machine

open Sys2Proof

/-- A station is ready on a lane: Active, neither held nor dozing, its shadow names the lane, and its
queue is not empty (R83). -/
def ready (s : State) (l : LaneId) (n : StationId) : Bool :=
  (s.entry n).lifecycle == .active && !(s.entry n).held && !(s.entry n).dozing
    && (s.entry n).shadow.lane == l && !(s.queue n).isEmpty

/-- A station's class, from its shadow as it stands (R84). -/
def classOf (s : State) (n : StationId) : ServiceClass := (s.entry n).shadow.mode.serviceClass

/-- Membership of the candidate set of a class: ready, of the class, credit above 0 (R85). -/
def candidate (s : State) (l : LaneId) (c : ServiceClass) (n : StationId) : Bool :=
  ready s l n && classOf s n == c && decide (0 < (s.account n).credit)

/-- The order of a scan: from one above the pointer, rising, 511 followed by 0, the pointer itself
last (R88). -/
def scanOrder (p : StationId) : List StationId := (List.finRange 512).map (fun k => p + 1 + k)

/-- The first member of a class's candidate set in the scan from the class's pointer (R88). -/
def scan (s : State) (l : LaneId) (c : ServiceClass) (p : StationId) : Option StationId :=
  (scanOrder p).find? (candidate s l c)

/-- The better of a fallback's best station so far and a station of a higher index: the higher credit,
the lower index where they are equal (R89). -/
def betterOf (s : State) (best : Option StationId) (n : StationId) : Option StationId :=
  match best with
  | none => some n
  | some b => if (s.account b).credit < (s.account n).credit then some n else some b

/-- The ready station of the lane with the highest credit (R89). -/
def fallback (s : State) (l : LaneId) : Option StationId :=
  ((List.finRange 512).filter (ready s l)).foldl (betterOf s) none

/-- The round-robin pointer of a class. -/
def Lane.pointer (x : Lane) : ServiceClass → StationId
  | .reserved => x.reservedPtr
  | .shared => x.sharedPtr

/-- A class's round-robin pointer set (R88). -/
def Lane.setPointer (x : Lane) (c : ServiceClass) (n : StationId) : Lane :=
  match c with
  | .reserved => { x with reservedPtr := n }
  | .shared => { x with sharedPtr := n }

/-- The pointer a decision moves, moved: one class's pointer at steps 1 and 2, none at step 3 (R87). -/
def Lane.movePointer (x : Lane) (moved : Option ServiceClass) (n : StationId) : Lane :=
  match moved with
  | some c => x.setPointer c n
  | none => x

/-- The winner of a staging decision and the class whose pointer moves, if one does (R87). -/
def winner (s : State) (l : LaneId) : Option (StationId × Option ServiceClass) :=
  let x := s.lane l
  match scan s l x.phase (x.pointer x.phase) with
  | some n => some (n, some x.phase)
  | none =>
    match scan s l x.phase.other (x.pointer x.phase.other) with
    | some n => some (n, some x.phase.other)
    | none => (fallback s l).map (fun n => (n, none))

/-- Staging: the head entry of the winner's queue goes into the lane's staged slot, and the class's
pointer moves to the winner (R26, R91). -/
def stage (l : LaneId) (n : StationId) (moved : Option ServiceClass) (s : State) : State :=
  (s.setLane l { (s.lane l).movePointer moved n with staged := (s.queue n).head? }).setQueue n (s.queue n).tail

/-- STAGING_DECISION: taken while the lane is Running with an empty staged slot and a ready station; a
decision that finds the conditions gone stages nothing (R86, R87, R90). -/
def takeStaging (l : LaneId) (s : State) : State :=
  if (s.lane l).laneState = .running ∧ (s.lane l).staged = none then
    match winner s l with
    | some (n, moved) => stage l n moved s
    | none => s
  else s

/-- The meaning of STAGING_DECISION. -/
def execStagingDecision (l : LaneId) (s : State) : Out := .next (takeStaging l s)

end Sys2Proof.Machine
end

