-- ==== Sys2Proof/Machine/Timebase.lean ====
section
/-! DEFINITION. The timebase and the events it brings: refill expiries, sweep visits, phase expiries and
grant expiries (chapters 4 and 7). An event that is not due changes nothing; one that is due and has not
been taken when the next tick comes is taken at that tick, before the count advances (log entry 2). -/

namespace Sys2Proof.Machine

open Sys2Proof

/-- REFILL_EXPIRY: the refill timer reloads, and the expiry starts a sweep, sets the refill-owed flag, or
is lost with REFILL_OVERRUN (R68, R72). -/
def takeRefillExpiry (l : LaneId) (s : State) : State :=
  let x := s.lane l
  if x.refillTimer = some 0 then
    let y := { x with refillTimer := some x.refillSetting.period }
    if x.sweeping = false then s.setLane l { y with sweeping := true, position := 0, visitDue := false }
    else if x.owed = false then s.setLane l { y with owed := true }
    else (s.setLane l y).latch .refillOverrun
  else s

/-- A lane's sweep after the visit to the group at its position (R73). -/
def Lane.afterVisit (x : Lane) : Lane :=
  if x.position = 31 then
    (if x.owed then { x with owed := false, position := 0, visitDue := false }
     else { x with sweeping := false, position := 0, visitDue := false })
  else { x with position := x.position + 1, visitDue := false }

/-- SWEEP_VISIT: the sweep in progress refills the group at its position and moves on (R56, R73). -/
def takeSweepVisit (l : LaneId) (s : State) : State :=
  let x := s.lane l
  if x.sweeping = true ∧ x.visitDue = true then (refillGroup l x.position s).setLane l x.afterVisit else s

/-- The timer of a phase. -/
def Lane.phaseTimer (x : Lane) : ServiceClass → Option Nat
  | .reserved => x.reservedTimer
  | .shared => x.sharedTimer

/-- PHASE_EXPIRY: the timer of the current phase stops, the other phase begins and its timer starts (R76). -/
def takePhaseExpiry (l : LaneId) (s : State) : State :=
  let x := s.lane l
  if x.phaseTimer x.phase = some 0 then s.setLane l (x.startPhase x.phase.other) else s

/-- The reservation of a station lowered by an expired grant's estimate; the credit stands (R54). -/
def dropReservation (n : StationId) (estimate : Nat) (s : State) : State :=
  s.setAccount n { s.account n with reservation := (s.account n).reservation - estimate }

/-- The record an expiry leaves in the expired-grant memory of its slot (R133). -/
def recordExpired (l : LaneId) (g : Grant) (s : State) : State :=
  s.setLane l { s.lane l with expired := (s.lane l).expired.set g.slot (some { addr := g.entry.addr, station := g.entry.owner }) }

/-- The expiry of an issued grant, in the order of R132. -/
def expireGrant (l : LaneId) (g : Grant) (s : State) : State :=
  drainIfEmpty l (retireIfLast l g.entry.owner
    ((recordExpired l g (releaseGrant l g (dropReservation g.entry.owner g.estimate s))).latch .grantExpired))

/-- GRANT_EXPIRY of the grant at a ring slot, where the count stands at its deadline (R131). -/
def takeGrantExpiry (l : LaneId) (k : Slot) (s : State) : State :=
  match (s.lane l).grantAt k with
  | some g => if g.deadline = s.count then expireGrant l g s else s
  | none => s

/-- The events of one lane that are due at this microsecond, each taken if it has not been taken yet: the
grant expiries in issue order, the sweep visit, the refill expiry, the phase expiry (log entry 2). -/
def takeDue (l : LaneId) (s : State) : State :=
  takePhaseExpiry l (takeRefillExpiry l (takeSweepVisit l
    (((s.lane l).issued.map Grant.slot).foldl (fun t k => takeGrantExpiry l k t) s)))

/-- A tick at one lane: every running timer loses 1 µs, and a sweep in progress has a visit to make
(R65, R68, R73). -/
def Lane.tick (x : Lane) : Lane :=
  { x with
    refillTimer := x.refillTimer.map (· - 1)
    reservedTimer := x.reservedTimer.map (· - 1)
    sharedTimer := x.sharedTimer.map (· - 1)
    visitDue := x.sweeping }

/-- The count advances by 1, modulo 2^32, and the tick reaches both lanes (R65). -/
def advanceCount (s : State) : State :=
  { s with count := s.count + 1, laneA := s.laneA.tick, laneB := s.laneB.tick }

/-- TIMEBASE_TICK; while the part is in reset the count does not advance (R65). -/
def takeTick (s : State) : State :=
  match s.base with
  | none => s
  | some _ => advanceCount (takeDue .b (takeDue .a s))

/-- The meaning of REFILL_EXPIRY. -/
def execRefillExpiry (l : LaneId) (s : State) : Out := .next (takeRefillExpiry l s)

/-- The meaning of SWEEP_VISIT. -/
def execSweepVisit (l : LaneId) (s : State) : Out := .next (takeSweepVisit l s)

/-- The meaning of PHASE_EXPIRY. -/
def execPhaseExpiry (l : LaneId) (s : State) : Out := .next (takePhaseExpiry l s)

/-- The meaning of GRANT_EXPIRY. -/
def execGrantExpiry (l : LaneId) (k : Slot) (s : State) : Out := .next (takeGrantExpiry l k s)

/-- The meaning of TIMEBASE_TICK. -/
def execTimebaseTick (s : State) : Out := .next (takeTick s)

end Sys2Proof.Machine
end

