-- ==== Sys2Proof/Machine/Dispatch.lean ====
section
/-! DEFINITION. One arm for each command: the dispatch of a command to its meaning. -/

namespace Sys2Proof.Machine

open Sys2Proof

def exec (i : Instr) (s : State) : Host.Outcome State Fault Refusal :=
  match i with
  | .powerOnReset => Sys2Proof.Machine.execPowerOnReset s
  | .resetEnd wbase => Sys2Proof.Machine.execResetEnd wbase s
  | .timebaseTick => Sys2Proof.Machine.execTimebaseTick s
  | .refillExpiry l => Sys2Proof.Machine.execRefillExpiry l s
  | .sweepVisit l => Sys2Proof.Machine.execSweepVisit l s
  | .phaseExpiry l => Sys2Proof.Machine.execPhaseExpiry l s
  | .grantExpiry l k => Sys2Proof.Machine.execGrantExpiry l k s
  | .stagingDecision l => Sys2Proof.Machine.execStagingDecision l s
  | .stationRecordWrite r => Sys2Proof.Machine.execStationRecordWrite r s
  | .removalRequest r => Sys2Proof.Machine.execRemovalRequest r s
  | .post r => Sys2Proof.Machine.execPost r s
  | .flush r => Sys2Proof.Machine.execFlush r s
  | .hold r => Sys2Proof.Machine.execHold r s
  | .release r => Sys2Proof.Machine.execRelease r s
  | .doze r => Sys2Proof.Machine.execDoze r s
  | .wake r => Sys2Proof.Machine.execWake r s
  | .badCommand r => Sys2Proof.Machine.execBadCommand r s
  | .globalControlWrite r => Sys2Proof.Machine.execGlobalControlWrite r s
  | .schedulerClear r => Sys2Proof.Machine.execSchedulerClear r s
  | .laneEnable r => Sys2Proof.Machine.execLaneEnable r s
  | .laneDisable r => Sys2Proof.Machine.execLaneDisable r s
  | .stationProbe r => Sys2Proof.Machine.execStationProbe r s
  | .laneProbe r => Sys2Proof.Machine.execLaneProbe r s
  | .poolProbe r => Sys2Proof.Machine.execPoolProbe r s
  | .attentionProbe r => Sys2Proof.Machine.execAttentionProbe r s
  | .badProbe r => Sys2Proof.Machine.execBadProbe r s
  | .partialWrite r => Sys2Proof.Machine.execPartialWrite r s
  | .passThrough r => Sys2Proof.Machine.execPassThrough r s
  | .ringRead r => Sys2Proof.Machine.execRingRead r s
  | .readResponse k status words => Sys2Proof.Machine.execReadResponse k status words s
  | .completion r => Sys2Proof.Machine.execCompletion r s

end Sys2Proof.Machine
end

