-- ==== Sys2Proof/WellFormed.lean ====
section
/-! DEFINITION. Well-formed commands: a request the link can carry, and a request whose address and words
are those of the row that carries it. The window base and the source map are state, so these checks read
the address below the base's 16 MiB and leave the source class to `classify`. -/

namespace Sys2Proof

open Sys2Proof.Machine

/-- The link carries the request: its address is a word address, it has 1 to 8 words, a write carries one
data word for each and a read carries none (section 8.1). -/
def Request.wf (r : Request) : Bool :=
  r.addr.toNat % 4 == 0 && decide (1 ≤ r.enables.length) && decide (r.enables.length ≤ 8)
    && r.data.length == (match r.kind with | .write => r.enables.length | .read => 0)

/-- The region of the window a request's first word falls in when the window's base is that of its own
16 MiB block (R142, R144); `unnamed` outside the lowest 64 KiB of the block. -/
def Request.offset (r : Request) : Nat := r.addr.toNat % 2 ^ 24

/-- The region a request's own offset falls in (R144). -/
def Request.region (r : Request) : Region := regionAt r.offset

/-- The row that a processor-side write into a record region is, by its address and words alone
(R144 to R147); `none` for a request that no owner of a record takes. -/
def Request.recordRow (r : Request) : Option LinkEvent :=
  if r.offset < 65536 ∧ r.kind = .write ∧ isRecordRegion r.region = true then
    some (if isWhole r r.offset (recordWords r.region) then recordEvent r r.region else .partialWrite)
  else none

/-- A request of the given kind into a ring region. -/
def Request.inRing (r : Request) (k : Access) : Bool :=
  r.kind == k && decide (r.offset < 65536) && (match r.region with | .ring _ _ => true | _ => false)

/-- A command is well formed: its request is one the link can carry and is of the row that carries it. -/
def Instr.wf : Instr → Bool
  | .powerOnReset => true
  | .resetEnd _ => true
  | .timebaseTick => true
  | .refillExpiry _ => true
  | .sweepVisit _ => true
  | .phaseExpiry _ => true
  | .grantExpiry _ _ => true
  | .stagingDecision _ => true
  | .stationRecordWrite r => r.wf && (match r.recordRow with | some (.stationRecord _) => true | _ => false)
  | .removalRequest r => r.wf && (match r.recordRow with | some (.removal _) => true | _ => false)
  | .post r => r.wf && (match r.recordRow with | some (.post _) => true | _ => false)
  | .flush r => r.wf && (match r.recordRow with | some (.flush _) => true | _ => false)
  | .hold r => r.wf && (match r.recordRow with | some (.hold _) => true | _ => false)
  | .release r => r.wf && (match r.recordRow with | some (.release _) => true | _ => false)
  | .doze r => r.wf && (match r.recordRow with | some (.doze _) => true | _ => false)
  | .wake r => r.wf && (match r.recordRow with | some (.wake _) => true | _ => false)
  | .badCommand r => r.wf && (match r.recordRow with | some (.badCommand _) => true | _ => false)
  | .globalControlWrite r => r.wf && r.recordRow == some .globalControl
  | .schedulerClear r => r.wf && r.recordRow == some .schedulerClear
  | .laneEnable r => r.wf && (match r.recordRow with | some (.laneEnable _) => true | _ => false)
  | .laneDisable r => r.wf && (match r.recordRow with | some (.laneDisable _) => true | _ => false)
  | .stationProbe r => r.wf && (match r.recordRow with | some (.stationProbe _) => true | _ => false)
  | .laneProbe r => r.wf && (match r.recordRow with | some (.laneProbe _) => true | _ => false)
  | .poolProbe r => r.wf && r.recordRow == some .poolProbe
  | .attentionProbe r => r.wf && r.recordRow == some .attentionProbe
  | .badProbe r => r.wf && r.recordRow == some .badProbe
  | .partialWrite r => r.wf && r.recordRow == some .partialWrite
  | .passThrough r => r.wf
  | .ringRead r => r.wf && r.inRing .read
  | .readResponse _ _ words => decide (words.length ≤ 8)
  | .completion r => r.wf && r.inRing .write

end Sys2Proof
end

