-- ==== Sys2Proof/Safety.lean ====
section
/-! DEFINITION. What the spec promises of every state the part can reach, one predicate for each promise,
and the frames that say what a command leaves unchanged. -/

namespace Sys2Proof.Machine

open Sys2Proof

/-! ### The pool (R23, R24, R163) -/

/-- The entry numbers of every station queue. -/
def queuedIds (s : State) : List Nat := (List.finRange 512).flatMap (fun n => (s.queue n).map PoolEntry.id)

/-- The entry numbers a lane holds: its staged slot's and its issued list's. -/
def laneIds (x : Lane) : List Nat := x.staged.toList.map PoolEntry.id ++ x.issued.map (fun g => g.entry.id)

/-- Every pool entry is in exactly one place: the free stack, one queue, one staged slot or one issued
list (R23). -/
def PoolConserved (s : State) : Prop :=
  (s.free ++ queuedIds s ++ laneIds s.laneA ++ laneIds s.laneB).Perm resetFree

/-- The least free count is no more than the free count (R163). -/
def LeastFreeBelow (s : State) : Prop := s.leastFree ≤ s.freeCount

/-! ### Accounts (R45) -/

/-- Every credit lies between the floor and its station's ceiling (R45). -/
def CreditsBounded (s : State) : Prop :=
  ∀ n, Config.creditFloor ≤ (s.account n).credit ∧ (s.account n).credit ≤ ceilingAU (s.entry n).shadow

/-! ### The source map (R141) -/

/-- The map never names one number for both radios (R141). -/
def SourcesDiffer (s : State) : Prop := s.radioA ≠ s.radioB

/-! ### Settings (R47, R67, R152) -/

/-- A timer setting as a lane keeps it: preset 0..255, code 0..7 (R67). -/
def TimerSetting.inRange (t : TimerSetting) : Prop := t.preset ≤ 255 ∧ t.code ≤ 7

/-- A lane's settings lie in the ranges kept (R47, R67). -/
def Lane.settingsInRange (x : Lane) : Prop :=
  1 ≤ x.quantum ∧ x.quantum ≤ 4095 ∧ x.overhead ≤ 4095 ∧ x.refillSetting.inRange ∧ x.reservedSetting.inRange
    ∧ x.sharedSetting.inRange ∧ x.timeoutSetting.inRange

/-- The settings of both lanes and the watermark lie in the ranges kept (R47, R67, R152). -/
def SettingsInRange (s : State) : Prop := (∀ l, (s.lane l).settingsInRange) ∧ s.watermark ≤ 4095

/-! ### Issued lists (R109, R110) -/

/-- A grant issued `j` issues before a lane's next one: its slot and its sequence number both lie `j`
behind (R110, R167). -/
def Grant.behind (g : Grant) (x : Lane) (j : Nat) : Prop :=
  g.slot + Fin.ofNat 64 j = x.expected ∧ g.seq + BitVec.ofNat 8 j = x.nextSeq

/-- A lane's issued list: at most four grants, at distinct slots, each one of the four before the expected
slot with the sequence number of its issue and an estimate of at most 32,767 AU; none while the lane is Off
(R48, R109, R110). -/
def Lane.issuedInWindow (x : Lane) : Prop :=
  x.issued.length ≤ 4 ∧ (x.issued.map Grant.slot).Nodup
    ∧ (∀ g ∈ x.issued, g.estimate ≤ Config.estimateMax ∧ ∃ j, 1 ≤ j ∧ j ≤ 4 ∧ g.behind x j)
    ∧ (x.laneState = .off → x.issued = [])

/-- Both lanes' issued lists keep R109 and R110. -/
def IssuedInWindow (s : State) : Prop := ∀ l, (s.lane l).issuedInWindow

/-! ### Lane timers and staged slot by lane state (R71, R72, R76, R81, R98) -/

/-- The phase timers by mode: in ALTERNATE exactly the current phase's timer runs, in a fixed mode none
does (R76, R77). -/
def Lane.phaseTimersMatch (x : Lane) : Prop :=
  match x.mode with
  | .alternate => (x.phaseTimer x.phase).isSome ∧ x.phaseTimer x.phase.other = none
  | .reservedOnly => x.phase = .reserved ∧ x.reservedTimer = none ∧ x.sharedTimer = none
  | .sharedOnly => x.phase = .shared ∧ x.reservedTimer = none ∧ x.sharedTimer = none

/-- What a lane's timers, sweep and staged slot are in each lane state: an Off lane has its timers stopped,
its phase reserved and no sweep; a Running or Draining lane's refill timer runs; only a Running lane holds a
staged grant; with no sweep in progress the position is 0 and the flag clear (R71, R72, R76, R81, R98). -/
def Lane.restsByState (x : Lane) : Prop :=
  (x.laneState = .off →
      x.refillTimer = none ∧ x.reservedTimer = none ∧ x.sharedTimer = none ∧ x.phase = .reserved ∧ x.sweeping = false)
    ∧ (x.laneState ≠ .off → x.refillTimer.isSome ∧ x.phaseTimersMatch)
    ∧ (x.laneState ≠ .running → x.staged = none)
    ∧ (x.sweeping = false → x.position = 0 ∧ x.owed = false ∧ x.visitDue = false)

/-- Both lanes rest as their state asks. -/
def LanesRestByState (s : State) : Prop := ∀ l, (s.lane l).restsByState

/-! ### Stations (R18, R25, R55, R58, R82, R109) -/

/-- The estimates of the grants of a list that name a station, summed. -/
def estimateSum (gs : List Grant) (n : StationId) : Nat :=
  ((gs.filter (fun g => g.entry.owner == n)).map Grant.estimate).sum

/-- A shadow once a record has been accepted: rate 2..4800, depth limit 1..255, a valid mode (section 1.1). -/
def Shadow.accepted (x : Shadow) : Prop :=
  2 ≤ x.rate ∧ x.rate ≤ 4800 ∧ 1 ≤ x.depthLimit ∧ x.depthLimit ≤ 255 ∧ x.mode ≠ .invalid

/-- What one station's state is by its lifecycle. -/
structure StationSound (s : State) (n : StationId) : Prop where
  /-- Absent and Retiring stations have both flags clear and an empty queue (R17, R18, R58). -/
  quiet : (s.entry n).lifecycle ≠ .active →
    (s.entry n).held = false ∧ (s.entry n).dozing = false ∧ s.queue n = []
  /-- An Absent station's credit is 0 (R58). -/
  absentCredit : (s.entry n).lifecycle = .absent → (s.account n).credit = 0
  /-- A Retiring station has issued grants in its lane (R18). -/
  retiringIssued : (s.entry n).lifecycle = .retiring → 1 ≤ issuedCount (s.lane (s.entry n).shadow.lane) n
  /-- A group station does not doze (R14, R19). -/
  groupAwake : (s.entry n).shadow.mode = .group → (s.entry n).dozing = false
  /-- An Active or Retiring station's shadow is that of an accepted record (section 1.1). -/
  shadowAccepted : (s.entry n).lifecycle ≠ .absent → (s.entry n).shadow.accepted
  /-- A queue holds its own station's entries (R23). -/
  queueOwned : ∀ e ∈ s.queue n, e.owner = n
  /-- The backlog never exceeds 255 (R25). -/
  backlogBound : (s.queue n).length + (stagedFor s n).isSome.toNat ≤ 255
  /-- The reservation is the sum of the estimates of the station's issued grants (R55). -/
  reservationSum : (s.account n).reservation = estimateSum s.laneA.issued n + estimateSum s.laneB.issued n

/-- Every staged grant names an Active station, neither held nor dozing, whose shadow names the lane (R82). -/
def StagedSound (s : State) : Prop :=
  ∀ l e, (s.lane l).staged = some e →
    (s.entry e.owner).lifecycle = .active ∧ (s.entry e.owner).held = false ∧ (s.entry e.owner).dozing = false
      ∧ (s.entry e.owner).shadow.lane = l

/-- Every issued grant names an Active or Retiring station whose shadow names the lane (R109). -/
def IssuedSound (s : State) : Prop :=
  ∀ l, ∀ g ∈ (s.lane l).issued,
    (s.entry g.entry.owner).lifecycle ≠ .absent ∧ (s.entry g.entry.owner).shadow.lane = l

/-- The stations, the staged grants and the issued grants agree (R18, R25, R55, R58, R82, R109). -/
structure StationsSound (s : State) : Prop where
  stations : ∀ n, StationSound s n
  staged : StagedSound s
  issued : IssuedSound s

/-! ### Safe runs -/

/-- A state every promise above holds of. -/
structure Sound (s : State) : Prop where
  pool : PoolConserved s
  leastFree : LeastFreeBelow s
  credits : CreditsBounded s
  sources : SourcesDiffer s
  settings : SettingsInRange s
  issued : IssuedInWindow s
  lanes : LanesRestByState s
  stations : StationsSound s

/-! ### Frames -/

/-- The request went downstream unchanged but for the words named by `sent`, and no words of the part's
wait for its response. -/
def Passed (sent : Request) (s t : State) : Prop :=
  t.down = s.down ++ [sent] ∧ t.outstanding = s.outstanding ++ [{ req := sent, answer := none }] ∧ t.up = s.up

/-- A read went downstream unchanged, and the words wait that will replace memory's. -/
def Answered (r : Request) (words : List Word) (s t : State) : Prop :=
  t.down = s.down ++ [r] ∧ t.outstanding = s.outstanding ++ [{ req := r, answer := some words }] ∧ t.up = s.up

/-- The link's traffic is unchanged: an event that no request brings. -/
def LinkKept (s t : State) : Prop := t.down = s.down ∧ t.outstanding = s.outstanding ∧ t.up = s.up

/-- The window base, the timebase, the Probe Unit's settings and the queue of commands are unchanged. -/
def ControlKept (s t : State) : Prop :=
  t.base = s.base ∧ t.count = s.count ∧ t.radioA = s.radioA ∧ t.radioB = s.radioB ∧ t.watermark = s.watermark
    ∧ t.enabled = s.enabled ∧ t.pending = s.pending

/-- Both lanes are unchanged. -/
def LanesKept (s t : State) : Prop := t.laneA = s.laneA ∧ t.laneB = s.laneB

/-- The free stack and the least free count are unchanged. -/
def PoolKept (s t : State) : Prop := t.free = s.free ∧ t.leastFree = s.leastFree

/-- Every other station's entry, account and queue are unchanged. -/
def OthersKept (n : StationId) (s t : State) : Prop :=
  ∀ m, m ≠ n → t.entry m = s.entry m ∧ t.account m = s.account m ∧ t.queue m = s.queue m

/-- Every station's entry, account and queue are unchanged. -/
def StationsKept (s t : State) : Prop :=
  ∀ m, t.entry m = s.entry m ∧ t.account m = s.account m ∧ t.queue m = s.queue m

/-- Nothing of the part is changed but the link's traffic and the latched causes. -/
def PartKept (s t : State) : Prop := ControlKept s t ∧ LanesKept s t ∧ PoolKept s t ∧ StationsKept s t

/-- A write with one of its words replaced, its other words as written (R148). -/
def withWord (r : Request) (k : Nat) (w : Word) : Request := { r with data := r.data.set k w }

/-- Every lane but one is unchanged. -/
def OtherLaneKept (l : LaneId) (s t : State) : Prop := ∀ k, k ≠ l → t.lane k = s.lane k

/-- A record write refused with a result word: the word goes into the write, RECORD_REFUSED latches and
nothing else of the part changes (R7, R151). -/
def RecordRefused (r : Request) (w : Word) (s t : State) : Prop :=
  Passed (withWord r 7 w) s t ∧ PartKept s t ∧ t.latched = s.latched ||| Cause.recordRefused.mask

/-- A post slot command refused with a code: the code, the depth and the free count as they stand go into the
write, POST_REFUSED latches and nothing else of the part changes (R29). -/
def PostRefused (r : Request) (n : StationId) (code : ResultCode) (s t : State) : Prop :=
  Passed (withWord r 3 (postResult code (s.queue n).length s.freeCount)) s t ∧ PartKept s t
    ∧ t.latched = s.latched ||| Cause.postRefused.mask

/-! ### Terms of the statements -/

/-- The commands that are requests on the link, with the request each carries. -/
def requestOf : Instr → Option Request
  | .stationRecordWrite r => some r
  | .removalRequest r => some r
  | .post r => some r
  | .flush r => some r
  | .hold r => some r
  | .release r => some r
  | .doze r => some r
  | .wake r => some r
  | .badCommand r => some r
  | .globalControlWrite r => some r
  | .schedulerClear r => some r
  | .laneEnable r => some r
  | .laneDisable r => some r
  | .stationProbe r => some r
  | .laneProbe r => some r
  | .poolProbe r => some r
  | .attentionProbe r => some r
  | .badProbe r => some r
  | .partialWrite r => some r
  | .passThrough r => some r
  | .ringRead r => some r
  | .completion r => some r
  | .powerOnReset => none
  | .resetEnd _ => none
  | .timebaseTick => none
  | .refillExpiry _ => none
  | .sweepVisit _ => none
  | .phaseExpiry _ => none
  | .grantExpiry _ _ => none
  | .stagingDecision _ => none
  | .readResponse _ _ _ => none

/-- A lane as it stands once it has become Off: its timers stopped, its phase reserved, its sweep discarded
(R71). -/
def Lane.stopped (x : Lane) : Lane :=
  { x with
    laneState := .off, refillTimer := none, reservedTimer := none, sharedTimer := none, phase := .reserved,
    sweeping := false, position := 0, owed := false, visitDue := false }

/-- A lane whose issued list or enable has just changed: it has become Off where it was Draining with no
issued grant left (R108). -/
def Lane.drained (x : Lane) : Lane := if x.laneState = .draining ∧ x.issued = [] then x.stopped else x

/-- A station ready on a lane: the five conditions of R83. -/
def Ready (s : State) (l : LaneId) (n : StationId) : Prop :=
  (s.entry n).lifecycle = .active ∧ (s.entry n).held = false ∧ (s.entry n).dozing = false
    ∧ (s.entry n).shadow.lane = l ∧ s.queue n ≠ []

/-- A member of the candidate set of a class (R85). -/
def InSet (s : State) (l : LaneId) (c : ServiceClass) (n : StationId) : Prop :=
  Ready s l n ∧ (s.entry n).shadow.mode.serviceClass = c ∧ 0 < (s.account n).credit

/-- The place of a station in the scan that begins one above a pointer (R88). -/
def scanPlace (p n : StationId) : Nat := (n - (p + 1)).val

/-- No timed event is due at this microsecond: no running timer has reached its expiry, no sweep has a visit
to make and no issued grant's deadline is the count (log entry 2). -/
def NothingDue (s : State) : Prop :=
  ∀ l, (s.lane l).refillTimer ≠ some 0 ∧ (s.lane l).phaseTimer (s.lane l).phase ≠ some 0
    ∧ ¬((s.lane l).sweeping = true ∧ (s.lane l).visitDue = true) ∧ ∀ g ∈ (s.lane l).issued, g.deadline ≠ s.count

/-- The removal of a grant takes the last issued grant of a Retiring station (R127). -/
def EndsStation (s : State) (l : LaneId) (g : Grant) : Prop :=
  (s.entry g.entry.owner).lifecycle = .retiring
    ∧ ∀ h ∈ (s.lane l).issued.eraseP (fun h => h.slot == g.slot), h.entry.owner ≠ g.entry.owner

/-- Two states that differ in the enable set alone. -/
def SameButEnableSet (s t : State) : Prop := ({ t with enabled := s.enabled } : State) = s

/-- Two states of the part that differ in the enable set and in the link's traffic alone. -/
def SameButEnables (s t : State) : Prop :=
  ({ t with enabled := s.enabled, down := s.down, outstanding := s.outstanding, up := s.up } : State) = s

end Sys2Proof.Machine
end

