-- ==== Sys2Proof/Certificates/Slice0/Obligations.lean ====
section
/-! DEFINITION. The statements for the provers. -/

open Sys2Proof Sys2Proof.Machine

/-! ### The block and its commands -/

/-- One step takes the command at the front of the queue. The idle step on an empty queue is the model's choice
(log entry 1). -/
def Obligations.StepRunsFrontCommand : Prop :=
  ∀ s : State,
    (∀ c rest, step { s with pending := c :: rest } = exec c { s with pending := rest })
      ∧ step { s with pending := [] } = .next { s with pending := [] }

/-- No command stops the part, and no command touches the queue of commands (log entries 4 and 8). -/
def Obligations.EveryCommandCompletes : Prop :=
  ∀ (c : Instr) (s : State), ∃ t, exec c s = .next t ∧ t.pending = s.pending

/-! ### Reset -/

/-- Power-on reset puts every block into its reset state and keeps what the link already carries (R20, R42,
R62, R79, R99, R120, R142, R150, R164). -/
def Obligations.PowerOnResetValues : Prop :=
  ∀ s : State, ∃ t, exec .powerOnReset s = .next t
    ∧ (∀ n, t.entry n = {
          lifecycle := .absent, held := false, dozing := false,
          shadow := {
            kind := .none, mode := .unicastShared, lane := .a, weight := 0, depthLimit := 0, rate := 0,
            ceiling := 0 } }
        ∧ t.account n = { credit := 0, reservation := 0, floorReached := false, lastOutcome := none }
        ∧ t.queue n = [])
    ∧ t.free = List.range 4096 ∧ t.freeCount = 4096
    ∧ (∀ l, t.lane l = {
          quantum := 64, overhead := 0, refillSetting := { preset := 249, code := 1 },
          reservedSetting := { preset := 255, code := 3 }, sharedSetting := { preset := 255, code := 3 },
          timeoutSetting := { preset := 199, code := 5 }, mode := .alternate, refillTimer := none,
          reservedTimer := none, sharedTimer := none, phase := .reserved, sweeping := false, position := 0,
          owed := false, visitDue := false, staged := none, reservedPtr := 511, sharedPtr := 511,
          laneState := .off, expected := 0, nextSeq := 0, issued := [], expired := Vector.replicate 64 none })
    ∧ t.base = none ∧ t.count = 0 ∧ t.radioA = 1 ∧ t.radioB = 2 ∧ t.watermark = 0 ∧ t.enabled = 0
    ∧ t.leastFree = 4096 ∧ t.latched = 0 ∧ t.attnLow = false
    ∧ LinkKept s t ∧ t.pending = s.pending

/-- The straps are sampled when reset ends, and the window base then stands until the next reset; while the part is
in reset it holds none, and every request passes unchanged, is handed to no owner and latches no cause (R142). -/
def Obligations.WindowBaseIsSampledAtResetEnd : Prop :=
  (∀ (wbase : BitVec 8) (s : State),
      (s.base = none → exec (.resetEnd wbase) s = .next { s with base := some (BitVec.ofNat 32 (wbase.toNat * 2 ^ 24)) })
      ∧ (∀ b, s.base = some b → exec (.resetEnd wbase) s = .next s))
  ∧ (∀ (c : Instr) (s t : State) (b : Word), s.base = some b → c ≠ .powerOnReset → exec c s = .next t → t.base = some b)
  ∧ (∀ s : State, ∃ t, exec .powerOnReset s = .next t ∧ t.base = none)
  ∧ (∀ (s : State) (c : Instr) (r : Request), s.base = none → requestOf c = some r →
      ∃ t, exec c s = .next t ∧ Passed r s t ∧ PartKept s t ∧ t.latched = s.latched)

/-! ### Where requests go -/

/-- The region map (R144): the offsets of each region, the record sizes, and what an unnamed offset does. -/
def Obligations.RegionMap : Prop :=
  (∀ off, off < 65536 →
      (regionAt off = .globalControl ↔ off ≤ 0x1F)
    ∧ (regionAt off = .laneControl .a ↔ 0x20 ≤ off ∧ off ≤ 0x3F)
    ∧ (regionAt off = .laneControl .b ↔ 0x40 ≤ off ∧ off ≤ 0x5F)
    ∧ (regionAt off = .probeBlock ↔ 0x100 ≤ off ∧ off ≤ 0x11F)
    ∧ (∀ n : StationId, regionAt off = .postSlot n ↔ 0x2000 + 16 * n.val ≤ off ∧ off ≤ 0x2000 + 16 * n.val + 15)
    ∧ (∀ n : StationId, regionAt off = .stationRecord n ↔ 0x4000 + 32 * n.val ≤ off ∧ off ≤ 0x4000 + 32 * n.val + 31)
    ∧ (∀ k : Slot, regionAt off = .ring .a k ↔ 0x8000 + 16 * k.val ≤ off ∧ off ≤ 0x8000 + 16 * k.val + 15)
    ∧ (∀ k : Slot, regionAt off = .ring .b k ↔ 0x8400 + 16 * k.val ≤ off ∧ off ≤ 0x8400 + 16 * k.val + 15)
    ∧ (regionAt off = .unnamed ↔
        (0x60 ≤ off ∧ off ≤ 0xFF) ∨ (0x120 ≤ off ∧ off ≤ 0x1FFF) ∨ (0x8800 ≤ off ∧ off ≤ 0xFFFF)))
  ∧ (∀ (n : StationId) (l : LaneId) (k : Slot),
      recordWords .globalControl = 8 ∧ recordWords (.laneControl l) = 8 ∧ recordWords .probeBlock = 8
    ∧ recordWords (.postSlot n) = 4 ∧ recordWords (.stationRecord n) = 8 ∧ recordWords (.ring l k) = 4)
  ∧ (∀ (r : Request) (s : State) b off, s.base = some b → windowOffset b r.addr = some off → regionAt off = .unnamed →
      classify s r = .passThrough)

/-- A whole processor-side write of a record region reaches the owner its address and its words name
(R1, R27, R28, R104, R151, R159). -/
def Obligations.WholeWritesReachTheirOwner : Prop :=
  ∀ (s : State) (r : Request) (b : Word) (off : Nat),
    s.base = some b → radioOf s r.source = none → r.kind = .write → off < 65536 → r.addr.toNat = b.toNat + off →
      (r.enables = List.replicate 8 0xF → ∀ n : StationId, off = 0x4000 + 32 * n.val →
        classify s r = if bits (reqWord r 0) 3 0 = 0 then .removal n else .stationRecord n)
    ∧ (r.enables = List.replicate 4 0xF → ∀ n : StationId, off = 0x2000 + 16 * n.val →
        classify s r =
          (match bits (reqWord r 0) 3 0 with
            | 1 => .post n | 2 => .flush n | 3 => .hold n | 4 => .release n | 5 => .doze n | 6 => .wake n
            | _ => .badCommand n))
    ∧ (r.enables = List.replicate 8 0xF → off = 0 →
        classify s r = if bits (reqWord r 0) 31 31 = 1 ∧ bits (reqWord r 0) 3 0 ≠ bits (reqWord r 0) 11 8
          then .schedulerClear else .globalControl)
    ∧ (r.enables = List.replicate 8 0xF → ∀ l, off = (match l with | .a => 0x20 | .b => 0x40) →
        classify s r = if bits (reqWord r 0) 0 0 = 1 then .laneEnable l else .laneDisable l)
    ∧ (r.enables = List.replicate 8 0xF → off = 0x100 →
        (∀ n : StationId, bits (reqWord r 0) 3 0 = 1 → bits (reqWord r 0) 27 16 = n.val → classify s r = .stationProbe n)
        ∧ (bits (reqWord r 0) 3 0 = 2 → bits (reqWord r 0) 27 16 = 0 → classify s r = .laneProbe .a)
        ∧ (bits (reqWord r 0) 3 0 = 2 → bits (reqWord r 0) 27 16 = 1 → classify s r = .laneProbe .b)
        ∧ (bits (reqWord r 0) 3 0 = 3 → classify s r = .poolProbe)
        ∧ (bits (reqWord r 0) 3 0 = 4 → classify s r = .attentionProbe))

/-- Only a read or a write by the lane's own radio reaches its ring's Grant Tracker (R102, R141, R146). -/
def Obligations.OnlyTheLanesRadioReachesItsRing : Prop :=
  ∀ (s : State) (r : Request) (l : LaneId) (k : Slot) (whole : Bool),
    let named := ∃ b off, s.base = some b ∧ windowOffset b r.addr = some off ∧ regionAt off = .ring l k
      ∧ whole = isWhole r off 4 ∧ radioOf s r.source = some l
    (classify s r = .ringRead l k whole ↔ named ∧ r.kind = .read)
      ∧ (classify s r = .completion l k whole ↔ named ∧ r.kind = .write)

/-- A processor-side partial write passes unchanged and latches PARTIAL_WRITE; a processor-side write to a ring
is no record write (R147). A request is whole when it has the record's word count, lies at a multiple of the record's
size and has every byte enable set (R145). -/
def Obligations.PartialWritesPass : Prop :=
  (∀ (r : Request) (off words : Nat),
      isWhole r off words = true ↔ r.enables = List.replicate words 0xF ∧ off % (4 * words) = 0)
  ∧ (∀ (s : State) (r : Request),
      (classify s r = .partialWrite ↔
        ∃ b off, s.base = some b ∧ windowOffset b r.addr = some off ∧ radioOf s r.source = none ∧ r.kind = .write
          ∧ isRecordRegion (regionAt off) = true ∧ isWhole r off (recordWords (regionAt off)) = false)
    ∧ (classify s r = .partialWrite →
        ∃ t, exec (.partialWrite r) s = .next t ∧ Passed r s t ∧ PartKept s t
          ∧ t.latched = s.latched ||| Cause.partialWrite.mask))
  ∧ (∀ (s : State) (r : Request) b off l k, s.base = some b → windowOffset b r.addr = some off →
      radioOf s r.source = none → r.kind = .write → regionAt off = .ring l k →
      classify s r = .passThrough
        ∧ ∃ t, exec (.passThrough r) s = .next t ∧ Passed r s t ∧ PartKept s t ∧ t.latched = s.latched)

/-- A request that no owner takes reaches memory unchanged and changes nothing. Such a request is every request whose
first word lies outside the window (R143) and, inside it, exactly what R146 passes without a cause: a radio's request
anywhere but in its own lane's ring, every processor-side read, and a processor-side write outside the record regions
(R141, R143, R144, R146). The map names one number for both radios in no state the part reaches (R141). -/
def Obligations.RequestsPassThrough : Prop :=
  ∀ (s : State) (r : Request),
    (classify s r = .passThrough →
      ∃ t, exec (.passThrough r) s = .next t ∧ Passed r s t ∧ PartKept s t ∧ t.latched = s.latched)
    ∧ (∀ b, s.base = some b → (r.addr.toNat < b.toNat ∨ b.toNat + 65535 < r.addr.toNat) → classify s r = .passThrough)
    ∧ (∀ (b : Word) (off : Nat), s.base = some b → off < 65536 → r.addr.toNat = b.toNat + off →
        (r.source = s.radioA → (classify s r = .passThrough ↔ off < 0x8000 ∨ 0x83FF < off))
        ∧ (r.source ≠ s.radioA → r.source = s.radioB → (classify s r = .passThrough ↔ off < 0x8400 ∨ 0x87FF < off))
        ∧ (r.source ≠ s.radioA → r.source ≠ s.radioB →
            (classify s r = .passThrough ↔
              r.kind = .read ∨ (0x5F < off ∧ off < 0x100) ∨ (0x11F < off ∧ off < 0x2000) ∨ 0x7FFF < off)))

/-! ### Station records -/

/-- The fields of a station record, each read from its position over its full width (R165, section 10.2), the rate
clamp and its flags by the kind/mode table, and the depth clamp (R3, R4, R5). -/
def Obligations.RateAndDepthClamps : Prop :=
  (∀ r : Request,
    let x := readStationRecord r
    (x.kind = .none ↔ bits (reqWord r 0) 1 0 = 0) ∧ (x.kind = .legacy ↔ bits (reqWord r 0) 1 0 = 1)
    ∧ (x.kind = .highThroughput ↔ bits (reqWord r 0) 1 0 = 2)
    ∧ (x.kind = .veryHighThroughput ↔ bits (reqWord r 0) 1 0 = 3)
    ∧ (x.mode = .unicastShared ↔ bits (reqWord r 0) 3 2 = 0) ∧ (x.mode = .unicastReserved ↔ bits (reqWord r 0) 3 2 = 1)
    ∧ (x.mode = .group ↔ bits (reqWord r 0) 3 2 = 2) ∧ (x.mode = .invalid ↔ bits (reqWord r 0) 3 2 = 3)
    ∧ (x.lane = .a ↔ bits (reqWord r 0) 4 4 = 0) ∧ (x.lane = .b ↔ bits (reqWord r 0) 4 4 = 1)
    ∧ x.weight = bits (reqWord r 0) 15 8 ∧ x.depthLimit = bits (reqWord r 0) 23 16
    ∧ x.generation = bits (reqWord r 0) 31 24 ∧ x.rate = bits (reqWord r 1) 12 0
    ∧ x.ceiling = bits (reqWord r 1) 31 16)
  ∧ ∀ (x : StationRecord) (lo hi : Nat), x.kind ≠ .none → x.mode ≠ .invalid →
    ((x.kind = .legacy ∨ x.mode = .group) ∧ lo = 2 ∧ hi = 108
      ∨ x.mode ≠ .group ∧ x.kind = .highThroughput ∧ lo = 13 ∧ hi = 1200
      ∨ x.mode ≠ .group ∧ x.kind = .veryHighThroughput ∧ lo = 13 ∧ hi = 4800) →
    (x.rate < lo → x.shadow.rate = lo) ∧ (lo ≤ x.rate → x.rate ≤ hi → x.shadow.rate = x.rate)
    ∧ (hi < x.rate → x.shadow.rate = hi)
    ∧ (x.groupRate = true ↔ (x.rate < lo ∨ hi < x.rate) ∧ x.mode = .group ∧ x.kind ≠ .legacy)
    ∧ (x.rateClamped = true ↔ (x.rate < lo ∨ hi < x.rate) ∧ ¬(x.mode = .group ∧ x.kind ≠ .legacy))
    ∧ (x.depthLimit = 0 → x.shadow.depthLimit = 1) ∧ (x.depthLimit ≠ 0 → x.shadow.depthLimit = x.depthLimit)
    ∧ (x.depthClamped = true ↔ x.depthLimit = 0)
    ∧ x.shadow.weight = x.weight ∧ x.shadow.ceiling = x.ceiling ∧ x.shadow.lane = x.lane ∧ x.shadow.kind = x.kind
    ∧ x.shadow.mode = x.mode

/-- An accepted record activates an Absent station with a fresh account (R2, R6, R8). -/
def Obligations.RecordActivatesAbsentStation : Prop :=
  ∀ (r : Request) (n : StationId) (s : State), classify s r = .stationRecord n → (s.entry n).lifecycle = .absent →
    (readStationRecord r).kind ≠ .none → (readStationRecord r).mode ≠ .invalid →
    ∃ t, exec (.stationRecordWrite r) s = .next t
      ∧ t.entry n = { lifecycle := .active, held := false, dozing := false, shadow := (readStationRecord r).shadow }
      ∧ t.account n = { credit := 0, reservation := 0, floorReached := false, lastOutcome := none }
      ∧ t.queue n = s.queue n
      ∧ Passed (withWord r 7 (stationAccepted (readStationRecord r))) s t
      ∧ OthersKept n s t ∧ LanesKept s t ∧ PoolKept s t ∧ ControlKept s t ∧ t.latched = s.latched

/-- An accepted record rewrites an Active station: the shadow is replaced, the credit is held at the new
ceiling, a group station does not stay dozing, and all else is kept (R9, R10, R12, R14). -/
def Obligations.RecordRewritesActiveStation : Prop :=
  ∀ (r : Request) (n : StationId) (s : State), classify s r = .stationRecord n → (s.entry n).lifecycle = .active →
    (readStationRecord r).kind ≠ .none → (readStationRecord r).mode ≠ .invalid →
    ((readStationRecord r).lane = (s.entry n).shadow.lane
      ∨ (s.queue n = [] ∧ stagedFor s n = none ∧ issuedCount (s.lane (s.entry n).shadow.lane) n = 0)) →
    ∃ t, exec (.stationRecordWrite r) s = .next t
      ∧ t.entry n = {
          lifecycle := .active, held := (s.entry n).held,
          dozing := if (readStationRecord r).mode = .group then false else (s.entry n).dozing,
          shadow := (readStationRecord r).shadow }
      ∧ t.account n = { s.account n with credit := min (s.account n).credit (4 * (readStationRecord r).ceiling) }
      ∧ t.queue n = s.queue n
      ∧ Passed (withWord r 7 (stationAccepted (readStationRecord r))) s t
      ∧ OthersKept n s t ∧ LanesKept s t ∧ PoolKept s t ∧ ControlKept s t ∧ t.latched = s.latched

/-- The refusals of a station record in the order of R2: BUSY, BAD_KIND, LANE_BUSY; a refusal changes nothing but
the latched causes (R2, R7, R17). -/
def Obligations.RecordRefusedInOrder : Prop :=
  ∀ (r : Request) (n : StationId) (s : State),
    let x := readStationRecord r
    let word := fun code => stationResult code false false false x.generation
    (classify s r = .stationRecord n →
        ((s.entry n).lifecycle = .retiring →
          ∃ t, exec (.stationRecordWrite r) s = .next t ∧ RecordRefused r (word .busy) s t)
      ∧ ((s.entry n).lifecycle ≠ .retiring → (x.kind = .none ∨ x.mode = .invalid) →
          ∃ t, exec (.stationRecordWrite r) s = .next t ∧ RecordRefused r (word .badKind) s t)
      ∧ ((s.entry n).lifecycle = .active → x.kind ≠ .none → x.mode ≠ .invalid → x.lane ≠ (s.entry n).shadow.lane →
          (s.queue n ≠ [] ∨ stagedFor s n ≠ none ∨ issuedCount (s.lane (s.entry n).shadow.lane) n ≠ 0) →
          ∃ t, exec (.stationRecordWrite r) s = .next t ∧ RecordRefused r (word .laneBusy) s t))
    ∧ (classify s r = .removal n → (s.entry n).lifecycle = .retiring →
        ∃ t, exec (.removalRequest r) s = .next t ∧ RecordRefused r (word .busy) s t)

/-- A removal request for an Absent entry is accepted with no flags and changes nothing (R16). -/
def Obligations.RemovalOfAbsentStation : Prop :=
  ∀ (r : Request) (n : StationId) (s : State), classify s r = .removal n → (s.entry n).lifecycle = .absent →
    ∃ t, exec (.removalRequest r) s = .next t
      ∧ Passed (withWord r 7 (stationResult .accepted false false false (readStationRecord r).generation)) s t
      ∧ PartKept s t ∧ t.latched = s.latched

/-- A removal request for an Active entry frees its backlog, staged entry first, and makes it Absent, or Retiring
while grants are in flight (R15, R18). -/
def Obligations.RemovalOfActiveStation : Prop :=
  ∀ (r : Request) (n : StationId) (s : State), classify s r = .removal n → (s.entry n).lifecycle = .active →
    ∃ t, exec (.removalRequest r) s = .next t
      ∧ t.free = ((stagedFor s n).toList.map PoolEntry.id ++ (s.queue n).map PoolEntry.id).reverse ++ s.free
      ∧ t.leastFree = s.leastFree
      ∧ t.queue n = []
      ∧ (∀ l, t.lane l = if l = (s.entry n).shadow.lane ∧ (stagedFor s n).isSome = true
          then { s.lane l with staged := none } else s.lane l)
      ∧ (issuedCount (s.lane (s.entry n).shadow.lane) n = 0 →
          t.entry n = { s.entry n with lifecycle := .absent, held := false, dozing := false }
          ∧ t.account n = { s.account n with credit := 0, floorReached := false })
      ∧ (issuedCount (s.lane (s.entry n).shadow.lane) n ≠ 0 →
          t.entry n = { s.entry n with lifecycle := .retiring, held := false, dozing := false }
          ∧ t.account n = s.account n)
      ∧ Passed (withWord r 7 (stationResult .accepted false false false (readStationRecord r).generation)) s t
      ∧ OthersKept n s t ∧ ControlKept s t ∧ t.latched = s.latched

/-! ### Post slots -/

/-- An accepted POST pops the top free entry, appends it filled to the station's queue, wakes the station where it
asks to, and latches POOL_LOW at a crossing of the watermark (R28, R30 to R33, R163). -/
def Obligations.PostAccepted : Prop :=
  ∀ (r : Request) (n : StationId) (s : State) (id : Nat) (rest : List Nat),
    classify s r = .post n → (s.entry n).lifecycle = .active → bits (reqWord r 2) 13 0 ≠ 0 →
    (s.queue n).length + (stagedFor s n).isSome.toNat < (s.entry n).shadow.depthLimit → s.free = id :: rest →
    ∃ t, exec (.post r) s = .next t
      ∧ t.free = rest ∧ t.leastFree = min s.leastFree rest.length
      ∧ t.queue n = s.queue n ++ [{
          id := id, addr := BitVec.ofNat 32 ((reqWord r 1).toNat / 4 * 4),
          len := bits (reqWord r 2) 13 0, owner := n }]
      ∧ t.entry n = { s.entry n with dozing := (s.entry n).dozing && bits (reqWord r 2) 31 31 != 1 }
      ∧ t.account n = s.account n
      ∧ t.latched = (if s.watermark ≤ rest.length + 1 ∧ rest.length < s.watermark
          then s.latched ||| Cause.poolLow.mask else s.latched)
      ∧ Passed (withWord r 3 (postResult .accepted ((s.queue n).length + 1) rest.length)) s t
      ∧ OthersKept n s t ∧ LanesKept s t ∧ ControlKept s t

/-- The refusals of a POST in the order of R30; the backlog of check 4 counts a staged entry (R25). -/
def Obligations.PostRefusedInOrder : Prop :=
  ∀ (r : Request) (n : StationId) (s : State), classify s r = .post n →
    let refusedWith := fun code => ∃ t, exec (.post r) s = .next t ∧ PostRefused r n code s t
    let backlog := (s.queue n).length + (stagedFor s n).isSome.toNat
    let len := bits (reqWord r 2) 13 0
    let limit := (s.entry n).shadow.depthLimit
    ((s.entry n).lifecycle = .absent → refusedWith .noStation)
      ∧ ((s.entry n).lifecycle = .retiring → refusedWith .retiring)
      ∧ ((s.entry n).lifecycle = .active → len = 0 → refusedWith .badLength)
      ∧ ((s.entry n).lifecycle = .active → len ≠ 0 → limit ≤ backlog → refusedWith .stationFull)
      ∧ ((s.entry n).lifecycle = .active → len ≠ 0 → backlog < limit → s.free = [] → refusedWith .poolEmpty)

/-- An accepted FLUSH frees the staged entry, then the queue from head to tail, and leaves the station as it is
(R34, R96). -/
def Obligations.FlushFreesTheBacklog : Prop :=
  ∀ (r : Request) (n : StationId) (s : State), classify s r = .flush n → (s.entry n).lifecycle = .active →
    ∃ t, exec (.flush r) s = .next t
      ∧ t.free = ((stagedFor s n).toList.map PoolEntry.id ++ (s.queue n).map PoolEntry.id).reverse ++ s.free
      ∧ t.leastFree = s.leastFree ∧ t.queue n = [] ∧ t.entry n = s.entry n ∧ t.account n = s.account n
      ∧ (∀ l, t.lane l = if l = (s.entry n).shadow.lane ∧ (stagedFor s n).isSome = true
          then { s.lane l with staged := none } else s.lane l)
      ∧ Passed (withWord r 3
          (postResult .accepted 0 (s.free.length + (s.queue n).length + (stagedFor s n).isSome.toNat))) s t
      ∧ OthersKept n s t ∧ ControlKept s t ∧ t.latched = s.latched

/-- An accepted HOLD or DOZE sets its flag and returns the station's staged entry to its queue head (R35, R37,
R95). -/
def Obligations.HoldAndDozeReturnTheStagedGrant : Prop :=
  ∀ (r : Request) (n : StationId) (s : State), (s.entry n).lifecycle = .active →
    let returned := fun t : State =>
      t.queue n = (stagedFor s n).toList ++ s.queue n ∧ t.account n = s.account n
      ∧ (∀ l, t.lane l = if l = (s.entry n).shadow.lane ∧ (stagedFor s n).isSome = true
          then { s.lane l with staged := none } else s.lane l)
      ∧ Passed (withWord r 3
          (postResult .accepted ((s.queue n).length + (stagedFor s n).isSome.toNat) s.freeCount)) s t
      ∧ OthersKept n s t ∧ PoolKept s t ∧ ControlKept s t ∧ t.latched = s.latched
    (classify s r = .hold n →
        ∃ t, exec (.hold r) s = .next t ∧ t.entry n = { s.entry n with held := true } ∧ returned t)
    ∧ (classify s r = .doze n → (s.entry n).shadow.mode ≠ .group →
        ∃ t, exec (.doze r) s = .next t ∧ t.entry n = { s.entry n with dozing := true } ∧ returned t)

/-- An accepted RELEASE clears the held flag, an accepted WAKE the dozing flag, and nothing else changes (R36,
R38). -/
def Obligations.ReleaseAndWakeClearTheirFlag : Prop :=
  ∀ (r : Request) (n : StationId) (s : State), (s.entry n).lifecycle = .active →
    let restKept := fun t : State =>
      t.queue n = s.queue n ∧ t.account n = s.account n
      ∧ Passed (withWord r 3 (postResult .accepted (s.queue n).length s.freeCount)) s t
      ∧ OthersKept n s t ∧ LanesKept s t ∧ PoolKept s t ∧ ControlKept s t ∧ t.latched = s.latched
    (classify s r = .release n →
        ∃ t, exec (.release r) s = .next t ∧ t.entry n = { s.entry n with held := false } ∧ restKept t)
    ∧ (classify s r = .wake n →
        ∃ t, exec (.wake r) s = .next t ∧ t.entry n = { s.entry n with dozing := false } ∧ restKept t)

/-- The refusals of the commands other than POST: NO_STATION, RETIRING, a DOZE of a group station, and an unknown
command code whatever the station's state (R28, R29, R34 to R38). -/
def Obligations.QueueCommandsRefused : Prop :=
  ∀ (r : Request) (n : StationId) (s : State),
    (∀ c, (c = .flush r ∧ classify s r = .flush n ∨ c = .hold r ∧ classify s r = .hold n
          ∨ c = .release r ∧ classify s r = .release n ∨ c = .doze r ∧ classify s r = .doze n
          ∨ c = .wake r ∧ classify s r = .wake n) →
        ((s.entry n).lifecycle = .absent → ∃ t, exec c s = .next t ∧ PostRefused r n .noStation s t)
      ∧ ((s.entry n).lifecycle = .retiring → ∃ t, exec c s = .next t ∧ PostRefused r n .retiring s t))
    ∧ (classify s r = .doze n → (s.entry n).lifecycle = .active → (s.entry n).shadow.mode = .group →
        ∃ t, exec (.doze r) s = .next t ∧ PostRefused r n .badCommand s t)
    ∧ (classify s r = .badCommand n → ∃ t, exec (.badCommand r) s = .next t ∧ PostRefused r n .badCommand s t)

/-! ### Estimates and periods -/

/-- The estimate of a frame: 64 × L / r rounded up, plus the overhead, at most 32,767 AU, marked exactly where that
limit acts; with its view in µs rounded up (R48, R61). -/
def Obligations.EstimateOfAFrame : Prop :=
  ∀ len rate overhead : Nat, 1 ≤ len → 1 ≤ rate →
    (∃ base, 64 * len ≤ base * rate ∧ base * rate < 64 * len + rate
      ∧ estimateOf len rate overhead = min (base + overhead) 32767
      ∧ (estimateClamped len rate overhead = true ↔ 32767 < base + overhead))
    ∧ 1 ≤ estimateOf len rate overhead ∧ estimateOf len rate overhead ≤ 32767
    ∧ 1 ≤ estimateView (estimateOf len rate overhead) ∧ estimateView (estimateOf len rate overhead) ≤ 8192
    ∧ estimateOf len rate overhead ≤ 4 * estimateView (estimateOf len rate overhead)
    ∧ 4 * estimateView (estimateOf len rate overhead) < estimateOf len rate overhead + 4

/-- The fields of a lane control record, each read from its position over its full width (R165, section 10.5), and
the settings they give a lane: each field held in its range (R47, R67), the periods they select (R66), and a change of
phase mode, which acts at once unless the lane is Off (R77). -/
def Obligations.LaneRecordSettings : Prop :=
  (∀ r : Request,
    let x := readLaneRecord r
    let timer := fun (t : TimerSetting) (w : Word) => t.preset = bits w 9 0 ∧ t.code = bits w 19 16
    (x.enable = true ↔ bits (reqWord r 0) 0 0 = 1) ∧ x.start = bits (reqWord r 0) 15 8
    ∧ x.modeCode = bits (reqWord r 0) 17 16
    ∧ timer x.reserved (reqWord r 1) ∧ timer x.shared (reqWord r 2) ∧ timer x.refill (reqWord r 3)
    ∧ timer x.timeout (reqWord r 4)
    ∧ x.quantum = bits (reqWord r 5) 12 0 ∧ x.overhead = bits (reqWord r 5) 28 16)
  ∧ ∀ (x : Lane) (r : LaneRecord),
    let y := x.takeSettings r
    let taken := fun (t : TimerSetting) (u : TimerSetting) => u.preset = min t.preset 255 ∧ u.code = min t.code 7
      ∧ u.period = (min t.preset 255 + 1) * 2 ^ (min t.code 7 + 1) ∧ 2 ≤ u.period ∧ u.period ≤ 65536
    y.quantum = (if r.quantum = 0 then 1 else min r.quantum 4095) ∧ y.overhead = min r.overhead 4095
    ∧ taken r.reserved y.reservedSetting ∧ taken r.shared y.sharedSetting ∧ taken r.refill y.refillSetting
    ∧ taken r.timeout y.timeoutSetting
    ∧ y.mode = (if r.modeCode = 0 then .alternate else if r.modeCode = 1 then .reservedOnly else .sharedOnly)
    ∧ (x.laneState = .off ∨ y.mode = x.mode →
        y.phase = x.phase ∧ y.reservedTimer = x.reservedTimer ∧ y.sharedTimer = x.sharedTimer)
    ∧ (x.laneState ≠ .off → y.mode ≠ x.mode →
        (y.mode = .reservedOnly → y.phase = .reserved ∧ y.reservedTimer = none ∧ y.sharedTimer = none)
        ∧ (y.mode = .sharedOnly → y.phase = .shared ∧ y.reservedTimer = none ∧ y.sharedTimer = none)
        ∧ (y.mode = .alternate → y.phase = x.phase
            ∧ y.reservedTimer = (if x.phase = .reserved then some y.reservedSetting.period else none)
            ∧ y.sharedTimer = (if x.phase = .shared then some y.sharedSetting.period else none)))
    ∧ y = { x with
        quantum := y.quantum, overhead := y.overhead, reservedSetting := y.reservedSetting,
        sharedSetting := y.sharedSetting, refillSetting := y.refillSetting, timeoutSetting := y.timeoutSetting,
        mode := y.mode, phase := y.phase, reservedTimer := y.reservedTimer, sharedTimer := y.sharedTimer }

/-! ### The timebase and what it brings -/

/-- A tick with no timed event outstanding advances the count, lowers every running timer by 1 µs and gives a sweep
in progress its next visit; while the part is in reset the count does not advance (R65, R68, R73). That events
outstanding are taken first is the model's choice (log entry 2). -/
def Obligations.TickLowersRunningTimers : Prop :=
  (∀ s : State, s.base = none → exec .timebaseTick s = .next s)
  ∧ (∀ (s : State) (b : Word), s.base = some b → NothingDue s →
      ∃ t, exec .timebaseTick s = .next t ∧ t.count = s.count + 1
        ∧ (∀ l, t.lane l = { s.lane l with
            refillTimer := (s.lane l).refillTimer.map (· - 1),
            reservedTimer := (s.lane l).reservedTimer.map (· - 1),
            sharedTimer := (s.lane l).sharedTimer.map (· - 1),
            visitDue := (s.lane l).sweeping })
        ∧ StationsKept s t ∧ PoolKept s t ∧ LinkKept s t ∧ t.base = s.base ∧ t.latched = s.latched
        ∧ t.radioA = s.radioA ∧ t.radioB = s.radioB ∧ t.watermark = s.watermark ∧ t.enabled = s.enabled
        ∧ t.pending = s.pending)

/-- An event whose conditions do not hold changes nothing: a timer that is not at its expiry, a sweep with no visit
to make, a deadline that is not the count, a staging decision without a Running lane, an empty slot and a ready
station (R86, R90). The form of the first four is the model's choice (log entry 2). -/
def Obligations.EventsNotDueChangeNothing : Prop :=
  ∀ (s : State) (l : LaneId) (k : Slot),
    ((s.lane l).refillTimer ≠ some 0 → exec (.refillExpiry l) s = .next s)
    ∧ (¬((s.lane l).sweeping = true ∧ (s.lane l).visitDue = true) → exec (.sweepVisit l) s = .next s)
    ∧ ((s.lane l).phaseTimer (s.lane l).phase ≠ some 0 → exec (.phaseExpiry l) s = .next s)
    ∧ ((∀ g ∈ (s.lane l).issued, g.slot = k → g.deadline ≠ s.count) → exec (.grantExpiry l k) s = .next s)
    ∧ ((s.lane l).laneState ≠ .running ∨ (s.lane l).staged ≠ none ∨ (∀ n, ¬Ready s l n) →
        exec (.stagingDecision l) s = .next s)

/-- The three outcomes of a refill expiry; the timer reloads in each (R68, R72). -/
def Obligations.RefillExpiryOutcomes : Prop :=
  ∀ (s : State) (l : LaneId), (s.lane l).refillTimer = some 0 →
    ∃ t, exec (.refillExpiry l) s = .next t
      ∧ ((s.lane l).sweeping = false →
          t.lane l = { s.lane l with
            refillTimer := some (s.lane l).refillSetting.period, sweeping := true,
            position := 0, visitDue := false } ∧ t.latched = s.latched)
      ∧ ((s.lane l).sweeping = true → (s.lane l).owed = false →
          t.lane l = { s.lane l with refillTimer := some (s.lane l).refillSetting.period, owed := true }
          ∧ t.latched = s.latched)
      ∧ ((s.lane l).sweeping = true → (s.lane l).owed = true →
          t.lane l = { s.lane l with refillTimer := some (s.lane l).refillSetting.period }
          ∧ t.latched = s.latched ||| Cause.refillOverrun.mask)
      ∧ OtherLaneKept l s t ∧ StationsKept s t ∧ PoolKept s t ∧ LinkKept s t ∧ ControlKept s t

/-- A sweep visit refills the Active stations of the lane in its group up to their ceilings and moves on, and the
visit to group 31 ends the sweep or starts the owed one (R56, R73). -/
def Obligations.SweepVisitRefillsItsGroup : Prop :=
  ∀ (s : State) (l : LaneId), (s.lane l).sweeping = true → (s.lane l).visitDue = true →
    ∃ t, exec (.sweepVisit l) s = .next t
      ∧ (∀ n, ((s.entry n).lifecycle = .active ∧ (s.entry n).shadow.lane = l ∧ n.val / 16 = (s.lane l).position.val →
            t.account n = { s.account n with
              credit :=
              min ((s.account n).credit + (s.entry n).shadow.weight * (s.lane l).quantum)
                (4 * (s.entry n).shadow.ceiling) })
          ∧ (¬((s.entry n).lifecycle = .active ∧ (s.entry n).shadow.lane = l
              ∧ n.val / 16 = (s.lane l).position.val) → t.account n = s.account n)
          ∧ t.entry n = s.entry n ∧ t.queue n = s.queue n)
      ∧ ((s.lane l).position.val < 31 →
          t.lane l = { s.lane l with position := (s.lane l).position + 1, visitDue := false })
      ∧ ((s.lane l).position = 31 → (s.lane l).owed = false →
          t.lane l = { s.lane l with sweeping := false, position := 0, visitDue := false })
      ∧ ((s.lane l).position = 31 → (s.lane l).owed = true →
          t.lane l = { s.lane l with owed := false, position := 0, visitDue := false })
      ∧ OtherLaneKept l s t ∧ PoolKept s t ∧ LinkKept s t ∧ ControlKept s t ∧ t.latched = s.latched

/-- A phase expiry stops its timer, changes the phase and starts the other phase's timer with a full period; a
staged grant and both pointers stand (R76, R92). -/
def Obligations.PhaseExpiryChangesThePhase : Prop :=
  ∀ (s : State) (l : LaneId),
    ((s.lane l).phase = .reserved → (s.lane l).reservedTimer = some 0 →
      ∃ t, exec (.phaseExpiry l) s = .next t
        ∧ t.lane l = { s.lane l with
            phase := .shared, reservedTimer := none,
            sharedTimer := some (s.lane l).sharedSetting.period }
        ∧ OtherLaneKept l s t ∧ StationsKept s t ∧ PoolKept s t ∧ LinkKept s t ∧ ControlKept s t
        ∧ t.latched = s.latched)
    ∧ ((s.lane l).phase = .shared → (s.lane l).sharedTimer = some 0 →
      ∃ t, exec (.phaseExpiry l) s = .next t
        ∧ t.lane l = { s.lane l with
            phase := .reserved, sharedTimer := none,
            reservedTimer := some (s.lane l).reservedSetting.period }
        ∧ OtherLaneKept l s t ∧ StationsKept s t ∧ PoolKept s t ∧ LinkKept s t ∧ ControlKept s t
        ∧ t.latched = s.latched)

/-- The expiry of a grant at its deadline: the reservation falls and the charge stands, the entry goes on top of the
free stack, the slot remembers the grant, GRANT_EXPIRED latches, and a Retiring station or a Draining lane may end
with it (R54, R127, R131 to R133). -/
def Obligations.GrantExpirySettlesTheCharge : Prop :=
  ∀ (s : State) (l : LaneId) (k : Slot) (g : Grant), (s.lane l).issued.find? (fun h => h.slot == k) = some g →
    g.deadline = s.count →
    ∃ t, exec (.grantExpiry l k) s = .next t
      ∧ t.lane l = Lane.drained { s.lane l with
          issued := (s.lane l).issued.eraseP (fun h => h.slot == k),
          expired := (s.lane l).expired.set k (some { addr := g.entry.addr, station := g.entry.owner }) }
      ∧ t.free = g.entry.id :: s.free ∧ t.leastFree = s.leastFree
      ∧ (¬EndsStation s l g → t.entry g.entry.owner = s.entry g.entry.owner
          ∧ t.account g.entry.owner = { s.account g.entry.owner with
              reservation := (s.account g.entry.owner).reservation - g.estimate })
      ∧ (EndsStation s l g → t.entry g.entry.owner = { s.entry g.entry.owner with lifecycle := .absent }
          ∧ t.account g.entry.owner = { s.account g.entry.owner with
              reservation := (s.account g.entry.owner).reservation - g.estimate, credit := 0, floorReached := false })
      ∧ t.queue g.entry.owner = s.queue g.entry.owner
      ∧ t.latched = s.latched ||| Cause.grantExpired.mask
      ∧ OthersKept g.entry.owner s t ∧ OtherLaneKept l s t ∧ LinkKept s t ∧ ControlKept s t

/-! ### Staging -/

/-- Steps 1 and 2 of the staging decision: the class searched first is the phase's, the other is searched where that
set is empty, and the winner is the first member in the scan from the class's pointer, which moves to it (R84, R85,
R87, R88, R91). -/
def Obligations.StagingServesAClassWithCredit : Prop :=
  ∀ (s : State) (l : LaneId) (c : ServiceClass) (n : StationId),
    (s.lane l).laneState = .running → (s.lane l).staged = none →
    (c = (s.lane l).phase ∨ ∀ m, ¬InSet s l (s.lane l).phase m) → InSet s l c n →
    (∀ m, InSet s l c m → scanPlace ((s.lane l).pointer c) n ≤ scanPlace ((s.lane l).pointer c) m) →
    ∃ t e rest, exec (.stagingDecision l) s = .next t ∧ s.queue n = e :: rest ∧ t.queue n = rest
      ∧ t.lane l = { s.lane l with
          staged := some e,
          reservedPtr := if c = .reserved then n else (s.lane l).reservedPtr,
          sharedPtr := if c = .shared then n else (s.lane l).sharedPtr }
      ∧ t.entry n = s.entry n ∧ t.account n = s.account n
      ∧ OthersKept n s t ∧ OtherLaneKept l s t ∧ PoolKept s t ∧ LinkKept s t ∧ ControlKept s t
      ∧ t.latched = s.latched

/-- Step 3 of the staging decision: with both sets empty the ready station of the highest credit wins, the lower index
between equal credits, and no pointer moves (R89, R91). -/
def Obligations.StagingFallsBackToTheSmallestDebt : Prop :=
  ∀ (s : State) (l : LaneId) (n : StationId),
    (s.lane l).laneState = .running → (s.lane l).staged = none → (∀ c m, ¬InSet s l c m) → Ready s l n →
    (∀ m, Ready s l m → (s.account m).credit < (s.account n).credit
      ∨ ((s.account m).credit = (s.account n).credit ∧ n ≤ m)) →
    ∃ t e rest, exec (.stagingDecision l) s = .next t ∧ s.queue n = e :: rest ∧ t.queue n = rest
      ∧ t.lane l = { s.lane l with staged := some e }
      ∧ t.entry n = s.entry n ∧ t.account n = s.account n
      ∧ OthersKept n s t ∧ OtherLaneKept l s t ∧ PoolKept s t ∧ LinkKept s t ∧ ControlKept s t
      ∧ t.latched = s.latched

/-! ### Control records -/

/-- A global control record that names one source for both radios is refused and changes nothing (R151). -/
def Obligations.GlobalRecordRefusedOnConflict : Prop :=
  ∀ (r : Request) (s : State), classify s r = .globalControl → bits (reqWord r 0) 3 0 = bits (reqWord r 0) 11 8 →
    ∃ t, exec (.globalControlWrite r) s = .next t ∧ RecordRefused r (globalResult .mapConflict false false) s t

/-- An accepted global control record without the clear field gives the part its three settings (R152). -/
def Obligations.GlobalRecordTaken : Prop :=
  ∀ (r : Request) (s : State), classify s r = .globalControl → bits (reqWord r 0) 3 0 ≠ bits (reqWord r 0) 11 8 →
    let clamped := decide (4095 < bits (reqWord r 1) 12 0)
    ∃ t, exec (.globalControlWrite r) s = .next t
      ∧ t.radioA = BitVec.ofNat 4 (bits (reqWord r 0) 3 0) ∧ t.radioB = BitVec.ofNat 4 (bits (reqWord r 0) 11 8)
      ∧ t.watermark = min (bits (reqWord r 1) 12 0) 4095 ∧ t.enabled = BitVec.ofNat 11 (bits (reqWord r 2) 10 0)
      ∧ Passed (withWord r 7 (globalResult (if clamped then .acceptedClamped else .accepted) clamped false)) s t
      ∧ StationsKept s t ∧ LanesKept s t ∧ PoolKept s t ∧ t.base = s.base ∧ t.count = s.count
      ∧ t.pending = s.pending ∧ t.latched = s.latched

/-- A scheduler clear: the settings of its record are taken, then every queue, grant and account of both lanes is at
its starting state, and what R153 keeps is kept (R21, R43, R63, R80, R100, R121, R152, R153). -/
def Obligations.SchedulerClearRestarts : Prop :=
  ∀ (r : Request) (s : State), classify s r = .schedulerClear →
    let clamped := decide (4095 < bits (reqWord r 1) 12 0)
    ∃ t, exec (.schedulerClear r) s = .next t
      ∧ (∀ n, t.queue n = []
          ∧ t.account n = { s.account n with credit := 0, reservation := 0, floorReached := false }
          ∧ t.entry n = { s.entry n with
              lifecycle := if (s.entry n).lifecycle = .retiring then .absent else (s.entry n).lifecycle })
      ∧ t.free = List.range 4096 ∧ t.leastFree = s.leastFree
      ∧ (∀ l,
          let restart := (s.lane l).laneState ≠ .off ∧ (s.lane l).mode = .alternate
          t.lane l = { s.lane l with
            staged := none, reservedPtr := 511, sharedPtr := 511, issued := [], expired := Vector.replicate 64 none,
            sweeping := false, position := 0, owed := false, visitDue := false,
            phase := if restart then .reserved else (s.lane l).phase,
            reservedTimer := if restart then some (s.lane l).reservedSetting.period else (s.lane l).reservedTimer,
            sharedTimer := if restart then none else (s.lane l).sharedTimer })
      ∧ t.radioA = BitVec.ofNat 4 (bits (reqWord r 0) 3 0) ∧ t.radioB = BitVec.ofNat 4 (bits (reqWord r 0) 11 8)
      ∧ t.watermark = min (bits (reqWord r 1) 12 0) 4095 ∧ t.enabled = BitVec.ofNat 11 (bits (reqWord r 2) 10 0)
      ∧ Passed (withWord r 7 (globalResult (if clamped then .acceptedClamped else .accepted) clamped true)) s t
      ∧ t.base = s.base ∧ t.count = s.count ∧ t.pending = s.pending ∧ t.latched = s.latched

/-- A lane record that sets enable on an Off lane starts the lane at the record's start slot with its timers at full
periods (R69, R104, R105, R155). -/
def Obligations.EnableStartsAnOffLane : Prop :=
  ∀ (r : Request) (l : LaneId) (s : State), classify s r = .laneEnable l → (s.lane l).laneState = .off →
    let y := (s.lane l).takeSettings (readLaneRecord r)
    ∃ t, exec (.laneEnable r) s = .next t
      ∧ t.lane l = { y with
          laneState := .running, expected := Fin.ofNat 64 (min (bits (reqWord r 0) 15 8) 63), nextSeq := 0,
          refillTimer := some y.refillSetting.period,
          sweeping := false, position := 0, owed := false, visitDue := false,
          phase := if y.mode = .sharedOnly then .shared else .reserved,
          reservedTimer := if y.mode = .alternate then some y.reservedSetting.period else none,
          sharedTimer := none }
      ∧ Passed (withWord r 7 (laneResult (readLaneRecord r) .running)) s t
      ∧ OtherLaneKept l s t ∧ StationsKept s t ∧ PoolKept s t ∧ ControlKept s t ∧ t.latched = s.latched

/-- A lane record that sets enable on a Running or Draining lane leaves it Running, with its settings taken and the
start slot not applied: the expected slot, the sequence, the issued list and the timers go on (R70, R104, R107). -/
def Obligations.EnableKeepsALaneInService : Prop :=
  ∀ (r : Request) (l : LaneId) (s : State), classify s r = .laneEnable l → (s.lane l).laneState ≠ .off →
    ∃ t, exec (.laneEnable r) s = .next t
      ∧ t.lane l = { (s.lane l).takeSettings (readLaneRecord r) with laneState := .running }
      ∧ Passed (withWord r 7 (laneResult (readLaneRecord r) .running)) s t
      ∧ OtherLaneKept l s t ∧ StationsKept s t ∧ PoolKept s t ∧ ControlKept s t ∧ t.latched = s.latched

/-- A lane record that clears enable returns the staged grant to its station's queue head and makes the lane Draining
while grants are issued, else Off; an Off lane takes its settings alone (R71, R95, R104, R106, R108). -/
def Obligations.DisableDrainsALane : Prop :=
  ∀ (r : Request) (l : LaneId) (s : State), classify s r = .laneDisable l →
    let y := (s.lane l).takeSettings (readLaneRecord r)
    let answered := fun (t : State) (after : LaneState) =>
      Passed (withWord r 7 (laneResult (readLaneRecord r) after)) s t
      ∧ OtherLaneKept l s t ∧ PoolKept s t ∧ ControlKept s t ∧ t.latched = s.latched
      ∧ ∀ n, t.entry n = s.entry n ∧ t.account n = s.account n
    ((s.lane l).laneState = .off →
        ∃ t, exec (.laneDisable r) s = .next t ∧ t.lane l = y ∧ (∀ n, t.queue n = s.queue n) ∧ answered t .off)
    ∧ ((s.lane l).laneState = .running →
        ∃ t, exec (.laneDisable r) s = .next t
          ∧ ((s.lane l).staged = none → ∀ n, t.queue n = s.queue n)
          ∧ (∀ e, (s.lane l).staged = some e →
              t.queue e.owner = e :: s.queue e.owner ∧ ∀ n, n ≠ e.owner → t.queue n = s.queue n)
          ∧ ((s.lane l).issued = [] → t.lane l = Lane.stopped { y with staged := none } ∧ answered t .off)
          ∧ ((s.lane l).issued ≠ [] → t.lane l = { y with staged := none, laneState := .draining }
              ∧ answered t .draining))
    ∧ ((s.lane l).laneState = .draining →
        ∃ t, exec (.laneDisable r) s = .next t ∧ (∀ n, t.queue n = s.queue n)
          ∧ ((s.lane l).issued = [] → t.lane l = y.stopped ∧ answered t .off)
          ∧ ((s.lane l).issued ≠ [] → t.lane l = y ∧ answered t .draining))

/-! ### Probes -/

/-- What a STATION probe reports, field by field (R159, R162, section 10.6). -/
def Obligations.StationProbeReports : Prop :=
  ∀ (r : Request) (n : StationId) (s : State), classify s r = .stationProbe n →
    let e := s.entry n
    let a := s.account n
    ∃ t w1 w2 w3 w5, exec (.stationProbe r) s = .next t
      ∧ Passed { r with data := [reqWord r 0, w1, w2, w3, BitVec.ofInt 32 a.credit, w5, 0, 0] } s t
      ∧ PartKept s t ∧ t.latched = s.latched
      ∧ bits w1 3 0 = 1
      ∧ bits w1 5 4 = (match e.lifecycle with | .absent => 0 | .active => 1 | .retiring => 2)
      ∧ bits w1 6 6 = e.held.toNat ∧ bits w1 7 7 = e.dozing.toNat
      ∧ bits w1 8 8 = (match e.shadow.lane with | .a => 0 | .b => 1)
      ∧ bits w1 9 9 = (if e.shadow.mode = .unicastShared then 0 else 1)
      ∧ bits w1 10 10 = (if e.shadow.mode = .group then 1 else 0)
      ∧ bits w1 11 11 = (match (s.lane e.shadow.lane).staged with
          | some x => if x.owner = n then 1 else 0
          | none => 0)
      ∧ bits w1 12 12 = a.floorReached.toNat
      ∧ bits w1 14 13 = (match a.lastOutcome with
          | some .delivered => 0 | some .failed => 1 | some .discarded => 2 | none => 3)
      ∧ bits w1 15 15 = 0
      ∧ bits w1 18 16 = (s.lane e.shadow.lane).issued.countP (fun g => g.entry.owner == n) % 8
      ∧ bits w1 19 19 = 0
      ∧ bits w1 21 20 = (match e.shadow.kind with
          | .none => 0 | .legacy => 1 | .highThroughput => 2 | .veryHighThroughput => 3)
      ∧ bits w1 23 22 = (match e.shadow.mode with
          | .unicastShared => 0 | .unicastReserved => 1 | .group => 2 | .invalid => 3)
      ∧ bits w1 31 24 = (s.queue n).length % 256
      ∧ bits w2 12 0 = e.shadow.rate % 8192 ∧ bits w2 15 13 = 0 ∧ bits w2 23 16 = e.shadow.weight % 256
      ∧ bits w2 31 24 = e.shadow.depthLimit % 256
      ∧ bits w3 15 0 = e.shadow.ceiling % 65536 ∧ bits w3 31 16 = 0
      ∧ bits w5 16 0 = a.reservation % 131072 ∧ bits w5 31 17 = 0

/-- What a LANE probe reports, field by field (R159, R163, section 10.6). -/
def Obligations.LaneProbeReports : Prop :=
  ∀ (r : Request) (l : LaneId) (s : State), classify s r = .laneProbe l →
    let x := s.lane l
    ∃ t w1 w2 w3 w4 w5 w6, exec (.laneProbe r) s = .next t
      ∧ Passed { r with data := [reqWord r 0, w1, w2, w3, w4, w5, w6, 0] } s t
      ∧ PartKept s t ∧ t.latched = s.latched
      ∧ bits w1 3 0 = 1
      ∧ bits w1 5 4 = (match x.laneState with | .off => 0 | .running => 1 | .draining => 2)
      ∧ bits w1 6 6 = (match x.phase with | .reserved => 0 | .shared => 1) ∧ bits w1 7 7 = 0
      ∧ bits w1 9 8 = (match x.mode with | .alternate => 0 | .reservedOnly => 1 | .sharedOnly => 2)
      ∧ bits w1 10 10 = x.sweeping.toNat ∧ bits w1 11 11 = x.owed.toNat
      ∧ bits w1 14 12 = x.issued.length % 8 ∧ bits w1 15 15 = 0
      ∧ bits w1 20 16 = x.position.val ∧ bits w1 23 21 = 0
      ∧ bits w1 27 24 = (match l with | .a => s.radioA.toNat | .b => s.radioB.toNat) ∧ bits w1 31 28 = 0
      ∧ bits w2 5 0 = x.expected.val ∧ bits w2 7 6 = 0 ∧ bits w2 15 8 = x.nextSeq.toNat
      ∧ bits w2 24 16 = (match x.staged with | some e => e.owner.val | none => 0) ∧ bits w2 30 25 = 0
      ∧ bits w2 31 31 = (match x.staged with | some _ => 1 | none => 0)
      ∧ (∀ (i : Nat) (w : Word), [w3, w4, w5, w6][i]? = some w →
          (x.issued[i]? = none → w = 0)
          ∧ ∀ g : Grant, x.issued[i]? = some g →
              bits w 5 0 = g.slot.val ∧ bits w 7 6 = 0 ∧ bits w 15 8 = g.seq.toNat ∧ bits w 24 16 = g.entry.owner.val
              ∧ bits w 31 25 = 0)

/-- A POOL probe reports the free count, the watermark and the least free count, then sets the least free count to
the free count (R163). -/
def Obligations.PoolProbeReports : Prop :=
  ∀ (r : Request) (s : State), classify s r = .poolProbe →
    ∃ t w2 w3, exec (.poolProbe r) s = .next t
      ∧ Passed { r with data := [reqWord r 0, 1, w2, w3, 0, 0, 0, 0] } s t
      ∧ bits w2 12 0 = s.free.length % 8192 ∧ bits w2 15 13 = 0 ∧ bits w2 28 16 = s.watermark % 8192
      ∧ bits w2 31 29 = 0 ∧ bits w3 12 0 = s.leastFree % 8192 ∧ bits w3 31 13 = 0
      ∧ t.leastFree = s.free.length ∧ t.free = s.free
      ∧ ControlKept s t ∧ LanesKept s t ∧ StationsKept s t ∧ t.latched = s.latched

/-- The numbering of the causes (section 10.8), and an ATTENTION probe: it reports the latched causes and the enable
set by that numbering, in bits 10..0 of words 2 and 3, and the drive of ATTN_N, then clears the latched set, which
releases ATTN_N (R158, R161). -/
def Obligations.AttentionProbeClears : Prop :=
  (Cause.recordRefused.bit = 0 ∧ Cause.partialWrite.bit = 1 ∧ Cause.postRefused.bit = 2 ∧ Cause.poolLow.bit = 3
    ∧ Cause.creditFloor.bit = 4 ∧ Cause.refillOverrun.bit = 5 ∧ Cause.ringOrder.bit = 6
    ∧ Cause.completionFraming.bit = 7 ∧ Cause.completionUnmatched.bit = 8 ∧ Cause.lateCompletion.bit = 9
    ∧ Cause.grantExpired.bit = 10 ∧ ∀ c : Cause, c.mask.toNat = 2 ^ c.bit)
  ∧ ∀ (r : Request) (s : State), classify s r = .attentionProbe →
    ∃ t w1 w2 w3, exec (.attentionProbe r) s = .next t
      ∧ Passed { r with data := [reqWord r 0, w1, w2, w3, 0, 0, 0, 0] } s t
      ∧ bits w1 3 0 = 1 ∧ bits w1 31 5 = 0
      ∧ (bits w1 4 4 = 1 ↔ ∃ c : Cause, s.latched.getLsbD c.bit = true ∧ s.enabled.getLsbD c.bit = true)
      ∧ (∀ c : Cause, bits w2 c.bit c.bit = (s.latched.getLsbD c.bit).toNat
          ∧ bits w3 c.bit c.bit = (s.enabled.getLsbD c.bit).toNat)
      ∧ w2.toNat = s.latched.toNat ∧ w3.toNat = s.enabled.toNat ∧ bits w2 31 11 = 0 ∧ bits w3 31 11 = 0
      ∧ t.latched = 0 ∧ t.attnLow = false ∧ PartKept s t

/-- A probe of an invalid kind or argument is refused with BAD_PROBE and latches RECORD_REFUSED (R160). -/
def Obligations.BadProbeRefused : Prop :=
  ∀ (r : Request) (s : State) (b : Word), s.base = some b → radioOf s r.source = none → r.kind = .write →
    r.enables = List.replicate 8 0xF → r.addr.toNat = b.toNat + 0x100 →
    (classify s r = .badProbe ↔
      bits (reqWord r 0) 3 0 = 0 ∨ 4 < bits (reqWord r 0) 3 0
      ∨ bits (reqWord r 0) 3 0 = 1 ∧ 511 < bits (reqWord r 0) 27 16
      ∨ bits (reqWord r 0) 3 0 = 2 ∧ 1 < bits (reqWord r 0) 27 16)
    ∧ (classify s r = .badProbe →
        ∃ t, exec (.badProbe r) s = .next t ∧ Passed { r with data := [reqWord r 0, 13, 0, 0, 0, 0, 0, 0] } s t
          ∧ PartKept s t ∧ t.latched = s.latched ||| Cause.recordRefused.mask)

/-! ### Ring reads and responses -/

/-- A whole read of the expected slot of a Running lane with a grant staged and room in the issued list issues that
grant: the slot and the sequence advance, the station is charged the estimate down to the floor, and the answer is
the grant (R50, R51, R78, R103, R110 to R112). -/
def Obligations.RingReadIssuesTheStagedGrant : Prop :=
  ∀ (r : Request) (l : LaneId) (s : State) (e : PoolEntry),
    classify s r = .ringRead l (s.lane l).expected true → (s.lane l).laneState = .running →
    (s.lane l).staged = some e → (s.lane l).issued.length < 4 →
    (∀ g ∈ (s.lane l).issued, g.slot ≠ (s.lane l).expected + 60) →
    let x := s.lane l
    let rate := (s.entry e.owner).shadow.rate
    let estimate := estimateOf e.len rate x.overhead
    let charged := (s.account e.owner).credit - estimate
    let g : Grant := {
      entry := e, seq := x.nextSeq, slot := x.expected, estimate := estimate,
      clamped := estimateClamped e.len rate x.overhead,
      deadline := s.count + BitVec.ofNat 32 x.timeoutSetting.period }
    ∃ t, exec (.ringRead r) s = .next t
      ∧ t.lane l = { x with
          staged := none, issued := x.issued ++ [g], expired := x.expired.set x.expected none,
          expected := x.expected + 1, nextSeq := x.nextSeq + 1 }
      ∧ (-8388608 < charged →
          t.account e.owner = { s.account e.owner with
            credit := charged,
            reservation := (s.account e.owner).reservation + estimate } ∧ t.latched = s.latched)
      ∧ (charged ≤ -8388608 →
          t.account e.owner = { s.account e.owner with
            credit := -8388608, floorReached := true,
            reservation := (s.account e.owner).reservation + estimate }
          ∧ t.latched = s.latched ||| Cause.creditFloor.mask)
      ∧ Answered r (grantWords g) s t
      ∧ t.entry e.owner = s.entry e.owner ∧ t.queue e.owner = s.queue e.owner
      ∧ OthersKept e.owner s t ∧ OtherLaneKept l s t ∧ PoolKept s t ∧ ControlKept s t

/-- Every other whole read of a Running or Draining lane's ring by its radio is answered and changes nothing but the
latched causes: an issued slot with its grant again, else empty, with RING_ORDER at a wrong slot of a Running lane
(R111, R113 to R115, R118). -/
def Obligations.RingReadAnsweredAgainOrEmpty : Prop :=
  ∀ (r : Request) (l : LaneId) (k : Slot) (s : State), classify s r = .ringRead l k true →
    let x := s.lane l
    let answeredWith := fun words latched =>
      ∃ t, exec (.ringRead r) s = .next t ∧ Answered r words s t ∧ PartKept s t ∧ t.latched = latched
    (x.laneState = .running → k = x.expected →
        (x.staged = none ∨ 4 ≤ x.issued.length ∨ ∃ g ∈ x.issued, g.slot = x.expected + 60) →
        answeredWith [0, 0, 0, 0] s.latched)
    ∧ (x.laneState = .running → k ≠ x.expected → (∀ g ∈ x.issued, g.slot ≠ k) →
        answeredWith [0, 0, 0, 0] (s.latched ||| Cause.ringOrder.mask))
    ∧ (∀ g, (x.laneState = .running ∧ k ≠ x.expected ∨ x.laneState = .draining) →
        x.issued.find? (fun h => h.slot == k) = some g → answeredWith (grantWords g) s.latched)
    ∧ (x.laneState = .draining → (∀ g ∈ x.issued, g.slot ≠ k) → answeredWith [0, 0, 0, 0] s.latched)

/-- A ring read of an Off lane passes to memory, and so does a partial read, which latches RING_ORDER in a Running or
Draining lane (R116, R119). -/
def Obligations.RingReadPassesToMemory : Prop :=
  ∀ (r : Request) (l : LaneId) (k : Slot) (whole : Bool) (s : State), classify s r = .ringRead l k whole →
    ((s.lane l).laneState = .off →
        ∃ t, exec (.ringRead r) s = .next t ∧ Passed r s t ∧ PartKept s t ∧ t.latched = s.latched)
    ∧ ((s.lane l).laneState ≠ .off → whole = false →
        ∃ t, exec (.ringRead r) s = .next t ∧ Passed r s t ∧ PartKept s t
          ∧ t.latched = s.latched ||| Cause.ringOrder.mask)

/-- A response returns once to the request it answers with memory's status; its words are memory's, or the part's where
the part answered the read (R139, R140, R149). That a response names its request by its place is the model's choice
(log entry 4). -/
def Obligations.ResponsesReturnWithMemorysStatus : Prop :=
  ∀ (k : Nat) (status : Status) (words : List Word) (s : State),
    (∀ o, s.outstanding[k]? = some o →
      ∃ t, exec (.readResponse k status words) s = .next t
        ∧ t.up = s.up ++ [{
            req := o.req, status := status,
            words := match o.answer with | some answer => answer | none => words }]
        ∧ t.outstanding = s.outstanding.take k ++ s.outstanding.drop (k + 1) ∧ t.down = s.down
        ∧ PartKept s t ∧ t.latched = s.latched)
    ∧ (s.outstanding.length ≤ k → exec (.readResponse k status words) s = .next s)

/-! ### Completions -/

/-- A matched completion ends its grant: the account is corrected by one sum held between the ceiling and the floor,
the entry goes on top of the free stack, the note carries the corrected figures, and a Retiring station or a Draining
lane may end with it (R52, R108, R124 to R127). -/
def Obligations.MatchedCompletionCorrectsTheCharge : Prop :=
  ∀ (r : Request) (l : LaneId) (k : Slot) (s : State) (g : Grant) (outcome : FrameOutcome),
    classify s r = .completion l k true → (s.lane l).laneState ≠ .off → bits (reqWord r 0) 31 31 = 0 →
    (match outcome with
      | .delivered => bits (reqWord r 0) 1 0 = 0
      | .failed => bits (reqWord r 0) 1 0 = 1
      | .discarded => bits (reqWord r 0) 1 0 = 2) →
    (s.lane l).issued.find? (fun h => h.slot == k) = some g → reqWord r 1 = g.entry.addr →
    let n := g.entry.owner
    let a := s.account n
    let sum := min (a.credit + g.estimate - 4 * bits (reqWord r 2) 15 0) (4 * (s.entry n).shadow.ceiling)
    let credit := if sum ≤ -8388608 then -8388608 else sum
    let floor := a.floorReached || decide (sum ≤ -8388608)
    ∃ t, exec (.completion r) s = .next t
      ∧ t.lane l = Lane.drained { s.lane l with issued := (s.lane l).issued.eraseP (fun h => h.slot == k) }
      ∧ t.free = g.entry.id :: s.free ∧ t.leastFree = s.leastFree
      ∧ (¬EndsStation s l g → t.entry n = s.entry n
          ∧ t.account n = {
              credit := credit, reservation := a.reservation - g.estimate, floorReached := floor,
              lastOutcome := some outcome })
      ∧ (EndsStation s l g → t.entry n = { s.entry n with lifecycle := .absent }
          ∧ t.account n = {
              credit := 0, reservation := a.reservation - g.estimate, floorReached := false,
              lastOutcome := some outcome })
      ∧ t.queue n = s.queue n
      ∧ t.latched = (if sum ≤ -8388608 then s.latched ||| Cause.creditFloor.mask else s.latched)
      ∧ Passed (withWord r 3 (matchedNote n g.seq credit floor)) s t
      ∧ OthersKept n s t ∧ OtherLaneKept l s t ∧ ControlKept s t

/-- A well-formed completion that ends no grant: LATE where the slot remembers an expired grant of that address, else
UNMATCHED; nothing else changes (R125, R128 to R130). -/
def Obligations.LateAndUnmatchedCompletions : Prop :=
  ∀ (r : Request) (l : LaneId) (k : Slot) (s : State), classify s r = .completion l k true →
    (s.lane l).laneState ≠ .off → bits (reqWord r 0) 31 31 = 0 → bits (reqWord r 0) 1 0 ≠ 3 →
    let x := s.lane l
    let notedWith := fun (note : Word) (c : Cause) =>
      ∃ t, exec (.completion r) s = .next t ∧ Passed (withWord r 3 note) s t ∧ PartKept s t
        ∧ t.latched = s.latched ||| c.mask
    (∀ y, (∀ g ∈ x.issued, g.slot ≠ k) → x.expired[k] = some y → reqWord r 1 = y.addr →
        notedWith (lateNote y.station) .lateCompletion)
    ∧ ((∀ g ∈ x.issued, g.slot ≠ k) → (∀ y, x.expired[k] = some y → reqWord r 1 ≠ y.addr) →
        notedWith unmatchedNote .completionUnmatched)
    ∧ (∀ g, x.issued.find? (fun h => h.slot == k) = some g → reqWord r 1 ≠ g.entry.addr →
        notedWith unmatchedNote .completionUnmatched)

/-- A completion with a framing fault is noted FRAMING if it is whole, passes as written if it is not, latches
COMPLETION_FRAMING and changes nothing else; a completion in an Off lane passes and latches nothing (R123, R136). -/
def Obligations.FramingFaultsAndOffLanes : Prop :=
  ∀ (r : Request) (l : LaneId) (k : Slot) (whole : Bool) (s : State), classify s r = .completion l k whole →
    ((s.lane l).laneState = .off →
        ∃ t, exec (.completion r) s = .next t ∧ Passed r s t ∧ PartKept s t ∧ t.latched = s.latched)
    ∧ ((s.lane l).laneState ≠ .off → whole = false →
        ∃ t, exec (.completion r) s = .next t ∧ Passed r s t ∧ PartKept s t
          ∧ t.latched = s.latched ||| Cause.completionFraming.mask)
    ∧ ((s.lane l).laneState ≠ .off → whole = true → (bits (reqWord r 0) 31 31 = 1 ∨ bits (reqWord r 0) 1 0 = 3) →
        ∃ t, exec (.completion r) s = .next t ∧ Passed (withWord r 3 framingNote) s t ∧ PartKept s t
          ∧ t.latched = s.latched ||| Cause.completionFraming.mask)

/-! ### The words the part writes -/

/-- The numbers of the result codes (R166), and the fields of every result word, at the positions of chapter 10, with
every other bit 0 (R6, R29, R152, R155, R166). -/
def Obligations.ResultWordFields : Prop :=
  (ResultCode.accepted.code = 1 ∧ ResultCode.acceptedClamped.code = 2 ∧ ResultCode.badKind.code = 3
    ∧ ResultCode.laneBusy.code = 4 ∧ ResultCode.busy.code = 5 ∧ ResultCode.noStation.code = 6
    ∧ ResultCode.retiring.code = 7 ∧ ResultCode.badLength.code = 8 ∧ ResultCode.stationFull.code = 9
    ∧ ResultCode.poolEmpty.code = 10 ∧ ResultCode.badCommand.code = 11 ∧ ResultCode.mapConflict.code = 12
    ∧ ResultCode.badProbe.code = 13)
  ∧
  (∀ (code : ResultCode) (rate depth group : Bool) (generation : Nat),
    let w := stationResult code rate depth group generation
    bits w 3 0 = code.code ∧ bits w 7 4 = 0 ∧ bits w 8 8 = rate.toNat ∧ bits w 9 9 = depth.toNat
    ∧ bits w 10 10 = group.toNat ∧ bits w 23 11 = 0 ∧ bits w 31 24 = generation % 256)
  ∧ (∀ x : StationRecord,
    let flagged := x.rateClamped || x.depthClamped || x.groupRate
    stationAccepted x = stationResult (if flagged then .acceptedClamped else .accepted) x.rateClamped x.depthClamped
      x.groupRate x.generation)
  ∧ (∀ (code : ResultCode) (depth free : Nat),
    let w := postResult code depth free
    bits w 3 0 = code.code ∧ bits w 7 4 = 0 ∧ bits w 15 8 = depth % 256 ∧ bits w 28 16 = free % 8192 ∧ bits w 31 29 = 0)
  ∧ (∀ (code : ResultCode) (watermark cleared : Bool),
    let w := globalResult code watermark cleared
    bits w 3 0 = code.code ∧ bits w 7 4 = 0 ∧ bits w 8 8 = watermark.toNat ∧ bits w 9 9 = cleared.toNat
    ∧ bits w 31 10 = 0)
  ∧ (∀ (x : LaneRecord) (after : LaneState),
    let w := laneResult x after
    let moved := fun t : TimerSetting => 255 < t.preset ∨ 7 < t.code
    let anyFlag := 63 < x.start ∨ x.modeCode > 2 ∨ moved x.reserved ∨ moved x.shared ∨ moved x.refill
      ∨ moved x.timeout ∨ x.quantum = 0 ∨ 4095 < x.quantum ∨ 4095 < x.overhead
    (anyFlag → bits w 3 0 = 2) ∧ (¬anyFlag → bits w 3 0 = 1) ∧ bits w 7 4 = 0
    ∧ (bits w 8 8 = 1 ↔ 63 < x.start) ∧ (bits w 9 9 = 1 ↔ 2 < x.modeCode) ∧ (bits w 10 10 = 1 ↔ moved x.reserved)
    ∧ (bits w 11 11 = 1 ↔ moved x.shared) ∧ (bits w 12 12 = 1 ↔ moved x.refill) ∧ (bits w 13 13 = 1 ↔ moved x.timeout)
    ∧ (bits w 14 14 = 1 ↔ x.quantum = 0 ∨ 4095 < x.quantum) ∧ (bits w 15 15 = 1 ↔ 4095 < x.overhead)
    ∧ bits w 17 16 = (match after with | .off => 0 | .running => 1 | .draining => 2) ∧ bits w 31 18 = 0)

/-- The fields of the four notes and of a grant, at the positions of chapter 10; the credit view is the credit divided
by 4, dropped toward zero and held in 16 signed bits (R60, R103, R167). -/
def Obligations.NoteAndGrantFields : Prop :=
  (∀ (n : StationId) (seq : BitVec 8) (credit : Int) (floor : Bool),
    let w := matchedNote n seq credit floor
    let view := (w.extractLsb' 0 16).toInt
    bits w 31 31 = 1 ∧ bits w 30 30 = floor.toNat ∧ bits w 29 21 = n.val ∧ bits w 20 16 = seq.toNat % 32
    ∧ (credit ≤ -131072 → view = -32768) ∧ (131068 ≤ credit → view = 32767)
    ∧ (0 ≤ credit → credit < 131072 → 4 * view ≤ credit ∧ credit < 4 * view + 4)
    ∧ (-131076 < credit → credit ≤ 0 → credit ≤ 4 * view ∧ 4 * view < credit + 4))
  ∧ (∀ n : StationId, bits (lateNote n) 31 30 = 0 ∧ bits (lateNote n) 29 21 = n.val ∧ bits (lateNote n) 20 16 = 1
      ∧ bits (lateNote n) 15 0 = 0)
  ∧ unmatchedNote = 0x00020000 ∧ framingNote = 0x00030000
  ∧ (∀ g : Grant, ∃ w0 w2 w3 : Word, grantWords g = [w0, g.entry.addr, w2, w3]
      ∧ bits w0 11 0 = 0 ∧ bits w0 19 12 = g.seq.toNat ∧ bits w0 28 20 = g.entry.owner.val ∧ bits w0 30 29 = 0
      ∧ bits w0 31 31 = 1 ∧ bits w2 13 0 = g.entry.len % 16384 ∧ bits w2 31 14 = 0
      ∧ bits w3 13 0 = (g.estimate + 3) / 4 % 16384 ∧ bits w3 30 14 = 0 ∧ bits w3 31 31 = g.clamped.toNat)

/-! ### Attention -/

/-- A latched cause stays latched under every command but an ATTENTION probe and a power-on reset, whatever the enable
set (R156, R161). -/
def Obligations.LatchedCausesStay : Prop :=
  ∀ (c : Instr) (s t : State) (cause : Cause), exec c s = .next t → s.latched.getLsbD cause.bit = true →
    c ≠ .powerOnReset → (∀ r, requestOf c = some r → classify s r ≠ .attentionProbe) →
    t.latched.getLsbD cause.bit = true

/-- The enable set changes nothing but the drive of ATTN_N and what an ATTENTION probe reports of it (R157). Under every
command but an ATTENTION probe, two states that differ in their enable sets alone go on to differ in those alone, so that
result words, notes and ring answers do not depend on the enables. Under an ATTENTION probe as well, two states that
differ in their enable sets and in the link's traffic alone go on to differ in those alone. -/
def Obligations.EnablesDecideNothingElse : Prop :=
  ∀ (c : Instr) (s t s' t' : State), exec c s = .next s' → exec c t = .next t' →
    ((∀ r, requestOf c = some r → classify s r ≠ .attentionProbe) → SameButEnableSet s t → SameButEnableSet s' t')
    ∧ (SameButEnables s t → SameButEnables s' t')

/-! ### What every reachable state keeps -/

/-- Every step keeps every pool entry in exactly one place, and the least free count at or below the free count (R23,
R24, R163). -/
def Obligations.EveryStepConservesThePool : Prop :=
  ∀ s t : State, PoolConserved s → step s = .next t →
    PoolConserved t ∧ (LeastFreeBelow s → LeastFreeBelow t)

/-- Every step keeps every credit between the floor and its station's ceiling (R45). -/
def Obligations.EveryStepBoundsTheCredits : Prop :=
  ∀ s t : State, CreditsBounded s → step s = .next t → CreditsBounded t

/-- Every step keeps each lane's issued grants at most four, at distinct slots among the four before the expected
slot, in step with the sequence (R109, R110). -/
def Obligations.EveryStepKeepsTheIssuedWindow : Prop :=
  ∀ s t : State, IssuedInWindow s → step s = .next t → IssuedInWindow t

/-- Every step keeps each lane's timers, phase, sweep and staged slot as its lane state asks (R71, R76, R81). -/
def Obligations.EveryStepKeepsLanesAtRest : Prop :=
  ∀ s t : State, LanesRestByState s → step s = .next t → LanesRestByState t

/-- Every step keeps the stations, the staged grants and the issued grants in agreement (R18, R25, R55, R58, R82,
R109). -/
def Obligations.EveryStepKeepsStationsSound : Prop :=
  ∀ s t : State, StationsSound s → step s = .next t → StationsSound t

/-- Every step keeps every setting in its range and the two radio sources different (R47, R67, R141, R152). -/
def Obligations.EveryStepKeepsSettingsInRange : Prop :=
  ∀ s t : State, SettingsInRange s → SourcesDiffer s → step s = .next t → SettingsInRange t ∧ SourcesDiffer t

/-- The state after reset meets every promise that the steps keep. -/
def Obligations.ResetIsSound : Prop := Sound State.reset
end

