-- ==== Sys2Proof/Laws/Link.lean ====
section
/-! SUPPORT. What the commands that are requests on the link do, said through `takeRequest`, and what
`takeRequest` does for each row. -/

namespace Sys2Proof.Machine

open Sys2Proof

variable (r : Request) (s : State)

/-! ### A command that is a request takes that request -/

@[simp] theorem exec_stationRecordWrite : exec (.stationRecordWrite r) s = .next (takeRequest r s) := by
  simp only [exec, execStationRecordWrite, takeRequest]; split <;> simp_all

@[simp] theorem exec_removalRequest : exec (.removalRequest r) s = .next (takeRequest r s) := by
  simp only [exec, execRemovalRequest, takeRequest]; split <;> simp_all

@[simp] theorem exec_post : exec (.post r) s = .next (takeRequest r s) := by
  simp only [exec, execPost, takeRequest]; split <;> simp_all

@[simp] theorem exec_flush : exec (.flush r) s = .next (takeRequest r s) := by
  simp only [exec, execFlush, takeRequest]; split <;> simp_all

@[simp] theorem exec_hold : exec (.hold r) s = .next (takeRequest r s) := by
  simp only [exec, execHold, takeRequest]; split <;> simp_all

@[simp] theorem exec_release : exec (.release r) s = .next (takeRequest r s) := by
  simp only [exec, execRelease, takeRequest]; split <;> simp_all

@[simp] theorem exec_doze : exec (.doze r) s = .next (takeRequest r s) := by
  simp only [exec, execDoze, takeRequest]; split <;> simp_all

@[simp] theorem exec_wake : exec (.wake r) s = .next (takeRequest r s) := by
  simp only [exec, execWake, takeRequest]; split <;> simp_all

@[simp] theorem exec_badCommand : exec (.badCommand r) s = .next (takeRequest r s) := by
  simp only [exec, execBadCommand, takeRequest]; split <;> simp_all

@[simp] theorem exec_globalControlWrite : exec (.globalControlWrite r) s = .next (takeRequest r s) := by
  simp only [exec, execGlobalControlWrite, takeRequest]; split <;> simp_all

@[simp] theorem exec_schedulerClear : exec (.schedulerClear r) s = .next (takeRequest r s) := by
  simp only [exec, execSchedulerClear, takeRequest]; split <;> simp_all

@[simp] theorem exec_laneEnable : exec (.laneEnable r) s = .next (takeRequest r s) := by
  simp only [exec, execLaneEnable, takeRequest]; split <;> simp_all

@[simp] theorem exec_laneDisable : exec (.laneDisable r) s = .next (takeRequest r s) := by
  simp only [exec, execLaneDisable, takeRequest]; split <;> simp_all

@[simp] theorem exec_stationProbe : exec (.stationProbe r) s = .next (takeRequest r s) := by
  simp only [exec, execStationProbe, takeRequest]; split <;> simp_all

@[simp] theorem exec_laneProbe : exec (.laneProbe r) s = .next (takeRequest r s) := by
  simp only [exec, execLaneProbe, takeRequest]; split <;> simp_all

@[simp] theorem exec_poolProbe : exec (.poolProbe r) s = .next (takeRequest r s) := by
  simp only [exec, execPoolProbe, takeRequest]; split <;> simp_all

@[simp] theorem exec_attentionProbe : exec (.attentionProbe r) s = .next (takeRequest r s) := by
  simp only [exec, execAttentionProbe, takeRequest]; split <;> simp_all

@[simp] theorem exec_badProbe : exec (.badProbe r) s = .next (takeRequest r s) := by
  simp only [exec, execBadProbe, takeRequest]; split <;> simp_all

@[simp] theorem exec_partialWrite : exec (.partialWrite r) s = .next (takeRequest r s) := by
  simp only [exec, execPartialWrite, takeRequest]; split <;> simp_all

@[simp] theorem exec_passThrough : exec (.passThrough r) s = .next (takeRequest r s) := by
  simp only [exec, execPassThrough, takeRequest]; split <;> simp_all

@[simp] theorem exec_ringRead : exec (.ringRead r) s = .next (takeRequest r s) := by
  simp only [exec, execRingRead, takeRequest]; split <;> simp_all

@[simp] theorem exec_completion : exec (.completion r) s = .next (takeRequest r s) := by
  simp only [exec, execCompletion, takeRequest]; split <;> simp_all

/-- Every command that carries a request takes that request. -/
theorem exec_of_requestOf (c : Instr) (h : requestOf c = some r) : exec c s = .next (takeRequest r s) := by
  cases c <;> simp_all [requestOf]

/-! ### What a request of each row does -/

theorem takeRequest_stationRecord (n : StationId) (h : classify s r = (.stationRecord n)) : takeRequest r s = takeStationRecord n r s := by
  simp only [takeRequest, h]

theorem takeRequest_removal (n : StationId) (h : classify s r = (.removal n)) : takeRequest r s = takeRemoval n r s := by
  simp only [takeRequest, h]

theorem takeRequest_post (n : StationId) (h : classify s r = (.post n)) : takeRequest r s = takePost n r s := by
  simp only [takeRequest, h]

theorem takeRequest_flush (n : StationId) (h : classify s r = (.flush n)) : takeRequest r s = takeFlush n r s := by
  simp only [takeRequest, h]

theorem takeRequest_hold (n : StationId) (h : classify s r = (.hold n)) : takeRequest r s = takeHold n r s := by
  simp only [takeRequest, h]

theorem takeRequest_release (n : StationId) (h : classify s r = (.release n)) : takeRequest r s = takeRelease n r s := by
  simp only [takeRequest, h]

theorem takeRequest_doze (n : StationId) (h : classify s r = (.doze n)) : takeRequest r s = takeDoze n r s := by
  simp only [takeRequest, h]

theorem takeRequest_wake (n : StationId) (h : classify s r = (.wake n)) : takeRequest r s = takeWake n r s := by
  simp only [takeRequest, h]

theorem takeRequest_badCommand (n : StationId) (h : classify s r = (.badCommand n)) : takeRequest r s = takeBadCommand n r s := by
  simp only [takeRequest, h]

theorem takeRequest_globalControl (h : classify s r = .globalControl) : takeRequest r s = takeGlobalControl r s := by
  simp only [takeRequest, h]

theorem takeRequest_schedulerClear (h : classify s r = .schedulerClear) : takeRequest r s = takeSchedulerClear r s := by
  simp only [takeRequest, h]

theorem takeRequest_laneEnable (l : LaneId) (h : classify s r = (.laneEnable l)) : takeRequest r s = takeLaneEnable l r s := by
  simp only [takeRequest, h]

theorem takeRequest_laneDisable (l : LaneId) (h : classify s r = (.laneDisable l)) : takeRequest r s = takeLaneDisable l r s := by
  simp only [takeRequest, h]

theorem takeRequest_stationProbe (n : StationId) (h : classify s r = (.stationProbe n)) : takeRequest r s = takeStationProbe n r s := by
  simp only [takeRequest, h]

theorem takeRequest_laneProbe (l : LaneId) (h : classify s r = (.laneProbe l)) : takeRequest r s = takeLaneProbe l r s := by
  simp only [takeRequest, h]

theorem takeRequest_poolProbe (h : classify s r = .poolProbe) : takeRequest r s = takePoolProbe r s := by
  simp only [takeRequest, h]

theorem takeRequest_attentionProbe (h : classify s r = .attentionProbe) : takeRequest r s = takeAttentionProbe r s := by
  simp only [takeRequest, h]

theorem takeRequest_badProbe (h : classify s r = .badProbe) : takeRequest r s = takeBadProbe r s := by
  simp only [takeRequest, h]

theorem takeRequest_partialWrite (h : classify s r = .partialWrite) : takeRequest r s = takePartialWrite r s := by
  simp only [takeRequest, h]

theorem takeRequest_passThrough (h : classify s r = .passThrough) : takeRequest r s = takePassThrough r s := by
  simp only [takeRequest, h]

theorem takeRequest_ringRead (l : LaneId) (k : Slot) (w : Bool) (h : classify s r = (.ringRead l k w)) : takeRequest r s = takeRingRead l k w r s := by
  simp only [takeRequest, h]

theorem takeRequest_completion (l : LaneId) (k : Slot) (w : Bool) (h : classify s r = (.completion l k w)) : takeRequest r s = takeCompletion l k w r s := by
  simp only [takeRequest, h]

end Sys2Proof.Machine
end

