-- ==== Sys2Proof/Laws/State.lean ====
section
/-! SUPPORT. What each update of the state leaves and what it writes: one lemma per field per update. -/

namespace Sys2Proof.Machine

open Sys2Proof

variable (s : State)

/-! ### setLane -/

@[simp] theorem setLane_base (k : LaneId) (x : Lane) : (s.setLane k x).base = s.base := by cases k <;> rfl
@[simp] theorem setLane_count (k : LaneId) (x : Lane) : (s.setLane k x).count = s.count := by cases k <;> rfl
@[simp] theorem setLane_table (k : LaneId) (x : Lane) : (s.setLane k x).table = s.table := by cases k <;> rfl
@[simp] theorem setLane_accounts (k : LaneId) (x : Lane) : (s.setLane k x).accounts = s.accounts := by cases k <;> rfl
@[simp] theorem setLane_queues (k : LaneId) (x : Lane) : (s.setLane k x).queues = s.queues := by cases k <;> rfl
@[simp] theorem setLane_free (k : LaneId) (x : Lane) : (s.setLane k x).free = s.free := by cases k <;> rfl
@[simp] theorem setLane_radioA (k : LaneId) (x : Lane) : (s.setLane k x).radioA = s.radioA := by cases k <;> rfl
@[simp] theorem setLane_radioB (k : LaneId) (x : Lane) : (s.setLane k x).radioB = s.radioB := by cases k <;> rfl
@[simp] theorem setLane_watermark (k : LaneId) (x : Lane) : (s.setLane k x).watermark = s.watermark := by cases k <;> rfl
@[simp] theorem setLane_enabled (k : LaneId) (x : Lane) : (s.setLane k x).enabled = s.enabled := by cases k <;> rfl
@[simp] theorem setLane_leastFree (k : LaneId) (x : Lane) : (s.setLane k x).leastFree = s.leastFree := by cases k <;> rfl
@[simp] theorem setLane_latched (k : LaneId) (x : Lane) : (s.setLane k x).latched = s.latched := by cases k <;> rfl
@[simp] theorem setLane_down (k : LaneId) (x : Lane) : (s.setLane k x).down = s.down := by cases k <;> rfl
@[simp] theorem setLane_outstanding (k : LaneId) (x : Lane) : (s.setLane k x).outstanding = s.outstanding := by cases k <;> rfl
@[simp] theorem setLane_up (k : LaneId) (x : Lane) : (s.setLane k x).up = s.up := by cases k <;> rfl
@[simp] theorem setLane_pending (k : LaneId) (x : Lane) : (s.setLane k x).pending = s.pending := by cases k <;> rfl
@[simp] theorem setLane_entry (k : LaneId) (x : Lane) (n : StationId) : (s.setLane k x).entry n = s.entry n := by cases k <;> rfl
@[simp] theorem setLane_account (k : LaneId) (x : Lane) (n : StationId) : (s.setLane k x).account n = s.account n := by cases k <;> rfl
@[simp] theorem setLane_queue (k : LaneId) (x : Lane) (n : StationId) : (s.setLane k x).queue n = s.queue n := by cases k <;> rfl

/-! ### setEntry -/

@[simp] theorem setEntry_base (k : StationId) (x : StationEntry) : (s.setEntry k x).base = s.base := rfl
@[simp] theorem setEntry_count (k : StationId) (x : StationEntry) : (s.setEntry k x).count = s.count := rfl
@[simp] theorem setEntry_accounts (k : StationId) (x : StationEntry) : (s.setEntry k x).accounts = s.accounts := rfl
@[simp] theorem setEntry_queues (k : StationId) (x : StationEntry) : (s.setEntry k x).queues = s.queues := rfl
@[simp] theorem setEntry_free (k : StationId) (x : StationEntry) : (s.setEntry k x).free = s.free := rfl
@[simp] theorem setEntry_laneA (k : StationId) (x : StationEntry) : (s.setEntry k x).laneA = s.laneA := rfl
@[simp] theorem setEntry_laneB (k : StationId) (x : StationEntry) : (s.setEntry k x).laneB = s.laneB := rfl
@[simp] theorem setEntry_radioA (k : StationId) (x : StationEntry) : (s.setEntry k x).radioA = s.radioA := rfl
@[simp] theorem setEntry_radioB (k : StationId) (x : StationEntry) : (s.setEntry k x).radioB = s.radioB := rfl
@[simp] theorem setEntry_watermark (k : StationId) (x : StationEntry) : (s.setEntry k x).watermark = s.watermark := rfl
@[simp] theorem setEntry_enabled (k : StationId) (x : StationEntry) : (s.setEntry k x).enabled = s.enabled := rfl
@[simp] theorem setEntry_leastFree (k : StationId) (x : StationEntry) : (s.setEntry k x).leastFree = s.leastFree := rfl
@[simp] theorem setEntry_latched (k : StationId) (x : StationEntry) : (s.setEntry k x).latched = s.latched := rfl
@[simp] theorem setEntry_down (k : StationId) (x : StationEntry) : (s.setEntry k x).down = s.down := rfl
@[simp] theorem setEntry_outstanding (k : StationId) (x : StationEntry) : (s.setEntry k x).outstanding = s.outstanding := rfl
@[simp] theorem setEntry_up (k : StationId) (x : StationEntry) : (s.setEntry k x).up = s.up := rfl
@[simp] theorem setEntry_pending (k : StationId) (x : StationEntry) : (s.setEntry k x).pending = s.pending := rfl
@[simp] theorem setEntry_lane (k : StationId) (x : StationEntry) (l : LaneId) : (s.setEntry k x).lane l = s.lane l := by cases l <;> rfl
@[simp] theorem setEntry_account (k : StationId) (x : StationEntry) (n : StationId) : (s.setEntry k x).account n = s.account n := rfl
@[simp] theorem setEntry_queue (k : StationId) (x : StationEntry) (n : StationId) : (s.setEntry k x).queue n = s.queue n := rfl

/-! ### setAccount -/

@[simp] theorem setAccount_base (k : StationId) (x : Account) : (s.setAccount k x).base = s.base := rfl
@[simp] theorem setAccount_count (k : StationId) (x : Account) : (s.setAccount k x).count = s.count := rfl
@[simp] theorem setAccount_table (k : StationId) (x : Account) : (s.setAccount k x).table = s.table := rfl
@[simp] theorem setAccount_queues (k : StationId) (x : Account) : (s.setAccount k x).queues = s.queues := rfl
@[simp] theorem setAccount_free (k : StationId) (x : Account) : (s.setAccount k x).free = s.free := rfl
@[simp] theorem setAccount_laneA (k : StationId) (x : Account) : (s.setAccount k x).laneA = s.laneA := rfl
@[simp] theorem setAccount_laneB (k : StationId) (x : Account) : (s.setAccount k x).laneB = s.laneB := rfl
@[simp] theorem setAccount_radioA (k : StationId) (x : Account) : (s.setAccount k x).radioA = s.radioA := rfl
@[simp] theorem setAccount_radioB (k : StationId) (x : Account) : (s.setAccount k x).radioB = s.radioB := rfl
@[simp] theorem setAccount_watermark (k : StationId) (x : Account) : (s.setAccount k x).watermark = s.watermark := rfl
@[simp] theorem setAccount_enabled (k : StationId) (x : Account) : (s.setAccount k x).enabled = s.enabled := rfl
@[simp] theorem setAccount_leastFree (k : StationId) (x : Account) : (s.setAccount k x).leastFree = s.leastFree := rfl
@[simp] theorem setAccount_latched (k : StationId) (x : Account) : (s.setAccount k x).latched = s.latched := rfl
@[simp] theorem setAccount_down (k : StationId) (x : Account) : (s.setAccount k x).down = s.down := rfl
@[simp] theorem setAccount_outstanding (k : StationId) (x : Account) : (s.setAccount k x).outstanding = s.outstanding := rfl
@[simp] theorem setAccount_up (k : StationId) (x : Account) : (s.setAccount k x).up = s.up := rfl
@[simp] theorem setAccount_pending (k : StationId) (x : Account) : (s.setAccount k x).pending = s.pending := rfl
@[simp] theorem setAccount_lane (k : StationId) (x : Account) (l : LaneId) : (s.setAccount k x).lane l = s.lane l := by cases l <;> rfl
@[simp] theorem setAccount_entry (k : StationId) (x : Account) (n : StationId) : (s.setAccount k x).entry n = s.entry n := rfl
@[simp] theorem setAccount_queue (k : StationId) (x : Account) (n : StationId) : (s.setAccount k x).queue n = s.queue n := rfl

/-! ### setQueue -/

@[simp] theorem setQueue_base (k : StationId) (x : List PoolEntry) : (s.setQueue k x).base = s.base := rfl
@[simp] theorem setQueue_count (k : StationId) (x : List PoolEntry) : (s.setQueue k x).count = s.count := rfl
@[simp] theorem setQueue_table (k : StationId) (x : List PoolEntry) : (s.setQueue k x).table = s.table := rfl
@[simp] theorem setQueue_accounts (k : StationId) (x : List PoolEntry) : (s.setQueue k x).accounts = s.accounts := rfl
@[simp] theorem setQueue_free (k : StationId) (x : List PoolEntry) : (s.setQueue k x).free = s.free := rfl
@[simp] theorem setQueue_laneA (k : StationId) (x : List PoolEntry) : (s.setQueue k x).laneA = s.laneA := rfl
@[simp] theorem setQueue_laneB (k : StationId) (x : List PoolEntry) : (s.setQueue k x).laneB = s.laneB := rfl
@[simp] theorem setQueue_radioA (k : StationId) (x : List PoolEntry) : (s.setQueue k x).radioA = s.radioA := rfl
@[simp] theorem setQueue_radioB (k : StationId) (x : List PoolEntry) : (s.setQueue k x).radioB = s.radioB := rfl
@[simp] theorem setQueue_watermark (k : StationId) (x : List PoolEntry) : (s.setQueue k x).watermark = s.watermark := rfl
@[simp] theorem setQueue_enabled (k : StationId) (x : List PoolEntry) : (s.setQueue k x).enabled = s.enabled := rfl
@[simp] theorem setQueue_leastFree (k : StationId) (x : List PoolEntry) : (s.setQueue k x).leastFree = s.leastFree := rfl
@[simp] theorem setQueue_latched (k : StationId) (x : List PoolEntry) : (s.setQueue k x).latched = s.latched := rfl
@[simp] theorem setQueue_down (k : StationId) (x : List PoolEntry) : (s.setQueue k x).down = s.down := rfl
@[simp] theorem setQueue_outstanding (k : StationId) (x : List PoolEntry) : (s.setQueue k x).outstanding = s.outstanding := rfl
@[simp] theorem setQueue_up (k : StationId) (x : List PoolEntry) : (s.setQueue k x).up = s.up := rfl
@[simp] theorem setQueue_pending (k : StationId) (x : List PoolEntry) : (s.setQueue k x).pending = s.pending := rfl
@[simp] theorem setQueue_lane (k : StationId) (x : List PoolEntry) (l : LaneId) : (s.setQueue k x).lane l = s.lane l := by cases l <;> rfl
@[simp] theorem setQueue_entry (k : StationId) (x : List PoolEntry) (n : StationId) : (s.setQueue k x).entry n = s.entry n := rfl
@[simp] theorem setQueue_account (k : StationId) (x : List PoolEntry) (n : StationId) : (s.setQueue k x).account n = s.account n := rfl

/-! ### latch -/

@[simp] theorem latch_base (c : Cause) : (s.latch c).base = s.base := rfl
@[simp] theorem latch_count (c : Cause) : (s.latch c).count = s.count := rfl
@[simp] theorem latch_table (c : Cause) : (s.latch c).table = s.table := rfl
@[simp] theorem latch_accounts (c : Cause) : (s.latch c).accounts = s.accounts := rfl
@[simp] theorem latch_queues (c : Cause) : (s.latch c).queues = s.queues := rfl
@[simp] theorem latch_free (c : Cause) : (s.latch c).free = s.free := rfl
@[simp] theorem latch_laneA (c : Cause) : (s.latch c).laneA = s.laneA := rfl
@[simp] theorem latch_laneB (c : Cause) : (s.latch c).laneB = s.laneB := rfl
@[simp] theorem latch_radioA (c : Cause) : (s.latch c).radioA = s.radioA := rfl
@[simp] theorem latch_radioB (c : Cause) : (s.latch c).radioB = s.radioB := rfl
@[simp] theorem latch_watermark (c : Cause) : (s.latch c).watermark = s.watermark := rfl
@[simp] theorem latch_enabled (c : Cause) : (s.latch c).enabled = s.enabled := rfl
@[simp] theorem latch_leastFree (c : Cause) : (s.latch c).leastFree = s.leastFree := rfl
@[simp] theorem latch_down (c : Cause) : (s.latch c).down = s.down := rfl
@[simp] theorem latch_outstanding (c : Cause) : (s.latch c).outstanding = s.outstanding := rfl
@[simp] theorem latch_up (c : Cause) : (s.latch c).up = s.up := rfl
@[simp] theorem latch_pending (c : Cause) : (s.latch c).pending = s.pending := rfl
@[simp] theorem latch_lane (c : Cause) (l : LaneId) : (s.latch c).lane l = s.lane l := by cases l <;> rfl
@[simp] theorem latch_entry (c : Cause) (n : StationId) : (s.latch c).entry n = s.entry n := rfl
@[simp] theorem latch_account (c : Cause) (n : StationId) : (s.latch c).account n = s.account n := rfl
@[simp] theorem latch_queue (c : Cause) (n : StationId) : (s.latch c).queue n = s.queue n := rfl

/-! ### latchIf -/

@[simp] theorem latchIf_base (b : Bool) (c : Cause) : (s.latchIf b c).base = s.base := by cases b <;> rfl
@[simp] theorem latchIf_count (b : Bool) (c : Cause) : (s.latchIf b c).count = s.count := by cases b <;> rfl
@[simp] theorem latchIf_table (b : Bool) (c : Cause) : (s.latchIf b c).table = s.table := by cases b <;> rfl
@[simp] theorem latchIf_accounts (b : Bool) (c : Cause) : (s.latchIf b c).accounts = s.accounts := by cases b <;> rfl
@[simp] theorem latchIf_queues (b : Bool) (c : Cause) : (s.latchIf b c).queues = s.queues := by cases b <;> rfl
@[simp] theorem latchIf_free (b : Bool) (c : Cause) : (s.latchIf b c).free = s.free := by cases b <;> rfl
@[simp] theorem latchIf_laneA (b : Bool) (c : Cause) : (s.latchIf b c).laneA = s.laneA := by cases b <;> rfl
@[simp] theorem latchIf_laneB (b : Bool) (c : Cause) : (s.latchIf b c).laneB = s.laneB := by cases b <;> rfl
@[simp] theorem latchIf_radioA (b : Bool) (c : Cause) : (s.latchIf b c).radioA = s.radioA := by cases b <;> rfl
@[simp] theorem latchIf_radioB (b : Bool) (c : Cause) : (s.latchIf b c).radioB = s.radioB := by cases b <;> rfl
@[simp] theorem latchIf_watermark (b : Bool) (c : Cause) : (s.latchIf b c).watermark = s.watermark := by cases b <;> rfl
@[simp] theorem latchIf_enabled (b : Bool) (c : Cause) : (s.latchIf b c).enabled = s.enabled := by cases b <;> rfl
@[simp] theorem latchIf_leastFree (b : Bool) (c : Cause) : (s.latchIf b c).leastFree = s.leastFree := by cases b <;> rfl
@[simp] theorem latchIf_down (b : Bool) (c : Cause) : (s.latchIf b c).down = s.down := by cases b <;> rfl
@[simp] theorem latchIf_outstanding (b : Bool) (c : Cause) : (s.latchIf b c).outstanding = s.outstanding := by cases b <;> rfl
@[simp] theorem latchIf_up (b : Bool) (c : Cause) : (s.latchIf b c).up = s.up := by cases b <;> rfl
@[simp] theorem latchIf_pending (b : Bool) (c : Cause) : (s.latchIf b c).pending = s.pending := by cases b <;> rfl
@[simp] theorem latchIf_lane (b : Bool) (c : Cause) (l : LaneId) : (s.latchIf b c).lane l = s.lane l := by cases b <;> cases l <;> rfl
@[simp] theorem latchIf_entry (b : Bool) (c : Cause) (n : StationId) : (s.latchIf b c).entry n = s.entry n := by cases b <;> rfl
@[simp] theorem latchIf_account (b : Bool) (c : Cause) (n : StationId) : (s.latchIf b c).account n = s.account n := by cases b <;> rfl
@[simp] theorem latchIf_queue (b : Bool) (c : Cause) (n : StationId) : (s.latchIf b c).queue n = s.queue n := by cases b <;> rfl

/-! ### send -/

@[simp] theorem send_base (r : Request) (a : Option (List Word)) : (s.send r a).base = s.base := rfl
@[simp] theorem send_count (r : Request) (a : Option (List Word)) : (s.send r a).count = s.count := rfl
@[simp] theorem send_table (r : Request) (a : Option (List Word)) : (s.send r a).table = s.table := rfl
@[simp] theorem send_accounts (r : Request) (a : Option (List Word)) : (s.send r a).accounts = s.accounts := rfl
@[simp] theorem send_queues (r : Request) (a : Option (List Word)) : (s.send r a).queues = s.queues := rfl
@[simp] theorem send_free (r : Request) (a : Option (List Word)) : (s.send r a).free = s.free := rfl
@[simp] theorem send_laneA (r : Request) (a : Option (List Word)) : (s.send r a).laneA = s.laneA := rfl
@[simp] theorem send_laneB (r : Request) (a : Option (List Word)) : (s.send r a).laneB = s.laneB := rfl
@[simp] theorem send_radioA (r : Request) (a : Option (List Word)) : (s.send r a).radioA = s.radioA := rfl
@[simp] theorem send_radioB (r : Request) (a : Option (List Word)) : (s.send r a).radioB = s.radioB := rfl
@[simp] theorem send_watermark (r : Request) (a : Option (List Word)) : (s.send r a).watermark = s.watermark := rfl
@[simp] theorem send_enabled (r : Request) (a : Option (List Word)) : (s.send r a).enabled = s.enabled := rfl
@[simp] theorem send_leastFree (r : Request) (a : Option (List Word)) : (s.send r a).leastFree = s.leastFree := rfl
@[simp] theorem send_latched (r : Request) (a : Option (List Word)) : (s.send r a).latched = s.latched := rfl
@[simp] theorem send_up (r : Request) (a : Option (List Word)) : (s.send r a).up = s.up := rfl
@[simp] theorem send_pending (r : Request) (a : Option (List Word)) : (s.send r a).pending = s.pending := rfl
@[simp] theorem send_lane (r : Request) (a : Option (List Word)) (l : LaneId) : (s.send r a).lane l = s.lane l := by cases l <;> rfl
@[simp] theorem send_entry (r : Request) (a : Option (List Word)) (n : StationId) : (s.send r a).entry n = s.entry n := rfl
@[simp] theorem send_account (r : Request) (a : Option (List Word)) (n : StationId) : (s.send r a).account n = s.account n := rfl
@[simp] theorem send_queue (r : Request) (a : Option (List Word)) (n : StationId) : (s.send r a).queue n = s.queue n := rfl

/-! ### forward -/

@[simp] theorem forward_base (r : Request) : (s.forward r).base = s.base := rfl
@[simp] theorem forward_count (r : Request) : (s.forward r).count = s.count := rfl
@[simp] theorem forward_table (r : Request) : (s.forward r).table = s.table := rfl
@[simp] theorem forward_accounts (r : Request) : (s.forward r).accounts = s.accounts := rfl
@[simp] theorem forward_queues (r : Request) : (s.forward r).queues = s.queues := rfl
@[simp] theorem forward_free (r : Request) : (s.forward r).free = s.free := rfl
@[simp] theorem forward_laneA (r : Request) : (s.forward r).laneA = s.laneA := rfl
@[simp] theorem forward_laneB (r : Request) : (s.forward r).laneB = s.laneB := rfl
@[simp] theorem forward_radioA (r : Request) : (s.forward r).radioA = s.radioA := rfl
@[simp] theorem forward_radioB (r : Request) : (s.forward r).radioB = s.radioB := rfl
@[simp] theorem forward_watermark (r : Request) : (s.forward r).watermark = s.watermark := rfl
@[simp] theorem forward_enabled (r : Request) : (s.forward r).enabled = s.enabled := rfl
@[simp] theorem forward_leastFree (r : Request) : (s.forward r).leastFree = s.leastFree := rfl
@[simp] theorem forward_latched (r : Request) : (s.forward r).latched = s.latched := rfl
@[simp] theorem forward_up (r : Request) : (s.forward r).up = s.up := rfl
@[simp] theorem forward_pending (r : Request) : (s.forward r).pending = s.pending := rfl
@[simp] theorem forward_lane (r : Request) (l : LaneId) : (s.forward r).lane l = s.lane l := by cases l <;> rfl
@[simp] theorem forward_entry (r : Request) (n : StationId) : (s.forward r).entry n = s.entry n := rfl
@[simp] theorem forward_account (r : Request) (n : StationId) : (s.forward r).account n = s.account n := rfl
@[simp] theorem forward_queue (r : Request) (n : StationId) : (s.forward r).queue n = s.queue n := rfl

/-! ### pushFree -/

@[simp] theorem pushFree_base (k : Nat) : (s.pushFree k).base = s.base := rfl
@[simp] theorem pushFree_count (k : Nat) : (s.pushFree k).count = s.count := rfl
@[simp] theorem pushFree_table (k : Nat) : (s.pushFree k).table = s.table := rfl
@[simp] theorem pushFree_accounts (k : Nat) : (s.pushFree k).accounts = s.accounts := rfl
@[simp] theorem pushFree_queues (k : Nat) : (s.pushFree k).queues = s.queues := rfl
@[simp] theorem pushFree_laneA (k : Nat) : (s.pushFree k).laneA = s.laneA := rfl
@[simp] theorem pushFree_laneB (k : Nat) : (s.pushFree k).laneB = s.laneB := rfl
@[simp] theorem pushFree_radioA (k : Nat) : (s.pushFree k).radioA = s.radioA := rfl
@[simp] theorem pushFree_radioB (k : Nat) : (s.pushFree k).radioB = s.radioB := rfl
@[simp] theorem pushFree_watermark (k : Nat) : (s.pushFree k).watermark = s.watermark := rfl
@[simp] theorem pushFree_enabled (k : Nat) : (s.pushFree k).enabled = s.enabled := rfl
@[simp] theorem pushFree_leastFree (k : Nat) : (s.pushFree k).leastFree = s.leastFree := rfl
@[simp] theorem pushFree_latched (k : Nat) : (s.pushFree k).latched = s.latched := rfl
@[simp] theorem pushFree_down (k : Nat) : (s.pushFree k).down = s.down := rfl
@[simp] theorem pushFree_outstanding (k : Nat) : (s.pushFree k).outstanding = s.outstanding := rfl
@[simp] theorem pushFree_up (k : Nat) : (s.pushFree k).up = s.up := rfl
@[simp] theorem pushFree_pending (k : Nat) : (s.pushFree k).pending = s.pending := rfl
@[simp] theorem pushFree_lane (k : Nat) (l : LaneId) : (s.pushFree k).lane l = s.lane l := by cases l <;> rfl
@[simp] theorem pushFree_entry (k : Nat) (n : StationId) : (s.pushFree k).entry n = s.entry n := rfl
@[simp] theorem pushFree_account (k : Nat) (n : StationId) : (s.pushFree k).account n = s.account n := rfl
@[simp] theorem pushFree_queue (k : Nat) (n : StationId) : (s.pushFree k).queue n = s.queue n := rfl

/-! ### setFree -/

@[simp] theorem setFree_base (k : List Nat) : (s.setFree k).base = s.base := rfl
@[simp] theorem setFree_count (k : List Nat) : (s.setFree k).count = s.count := rfl
@[simp] theorem setFree_table (k : List Nat) : (s.setFree k).table = s.table := rfl
@[simp] theorem setFree_accounts (k : List Nat) : (s.setFree k).accounts = s.accounts := rfl
@[simp] theorem setFree_queues (k : List Nat) : (s.setFree k).queues = s.queues := rfl
@[simp] theorem setFree_laneA (k : List Nat) : (s.setFree k).laneA = s.laneA := rfl
@[simp] theorem setFree_laneB (k : List Nat) : (s.setFree k).laneB = s.laneB := rfl
@[simp] theorem setFree_radioA (k : List Nat) : (s.setFree k).radioA = s.radioA := rfl
@[simp] theorem setFree_radioB (k : List Nat) : (s.setFree k).radioB = s.radioB := rfl
@[simp] theorem setFree_watermark (k : List Nat) : (s.setFree k).watermark = s.watermark := rfl
@[simp] theorem setFree_enabled (k : List Nat) : (s.setFree k).enabled = s.enabled := rfl
@[simp] theorem setFree_leastFree (k : List Nat) : (s.setFree k).leastFree = s.leastFree := rfl
@[simp] theorem setFree_latched (k : List Nat) : (s.setFree k).latched = s.latched := rfl
@[simp] theorem setFree_down (k : List Nat) : (s.setFree k).down = s.down := rfl
@[simp] theorem setFree_outstanding (k : List Nat) : (s.setFree k).outstanding = s.outstanding := rfl
@[simp] theorem setFree_up (k : List Nat) : (s.setFree k).up = s.up := rfl
@[simp] theorem setFree_pending (k : List Nat) : (s.setFree k).pending = s.pending := rfl
@[simp] theorem setFree_lane (k : List Nat) (l : LaneId) : (s.setFree k).lane l = s.lane l := by cases l <;> rfl
@[simp] theorem setFree_entry (k : List Nat) (n : StationId) : (s.setFree k).entry n = s.entry n := rfl
@[simp] theorem setFree_account (k : List Nat) (n : StationId) : (s.setFree k).account n = s.account n := rfl
@[simp] theorem setFree_queue (k : List Nat) (n : StationId) : (s.setFree k).queue n = s.queue n := rfl

/-! ### popFree -/

@[simp] theorem popFree_base : (s.popFree).base = s.base := rfl
@[simp] theorem popFree_count : (s.popFree).count = s.count := rfl
@[simp] theorem popFree_table : (s.popFree).table = s.table := rfl
@[simp] theorem popFree_accounts : (s.popFree).accounts = s.accounts := rfl
@[simp] theorem popFree_queues : (s.popFree).queues = s.queues := rfl
@[simp] theorem popFree_laneA : (s.popFree).laneA = s.laneA := rfl
@[simp] theorem popFree_laneB : (s.popFree).laneB = s.laneB := rfl
@[simp] theorem popFree_radioA : (s.popFree).radioA = s.radioA := rfl
@[simp] theorem popFree_radioB : (s.popFree).radioB = s.radioB := rfl
@[simp] theorem popFree_watermark : (s.popFree).watermark = s.watermark := rfl
@[simp] theorem popFree_enabled : (s.popFree).enabled = s.enabled := rfl
@[simp] theorem popFree_latched : (s.popFree).latched = s.latched := rfl
@[simp] theorem popFree_down : (s.popFree).down = s.down := rfl
@[simp] theorem popFree_outstanding : (s.popFree).outstanding = s.outstanding := rfl
@[simp] theorem popFree_up : (s.popFree).up = s.up := rfl
@[simp] theorem popFree_pending : (s.popFree).pending = s.pending := rfl
@[simp] theorem popFree_lane (l : LaneId) : (s.popFree).lane l = s.lane l := by cases l <;> rfl
@[simp] theorem popFree_entry (n : StationId) : (s.popFree).entry n = s.entry n := rfl
@[simp] theorem popFree_account (n : StationId) : (s.popFree).account n = s.account n := rfl
@[simp] theorem popFree_queue (n : StationId) : (s.popFree).queue n = s.queue n := rfl

/-! ### What each update writes -/

theorem setLane_lane (k l : LaneId) (x : Lane) : (s.setLane k x).lane l = if l = k then x else s.lane l := by
  cases k <;> cases l <;> rfl

@[simp] theorem setLane_lane_self (l : LaneId) (x : Lane) : (s.setLane l x).lane l = x := by cases l <;> rfl

theorem setLane_lane_other {k l : LaneId} (h : l ≠ k) (x : Lane) : (s.setLane k x).lane l = s.lane l := by
  rw [setLane_lane, if_neg h]

theorem setEntry_entry (k n : StationId) (x : StationEntry) :
    (s.setEntry k x).entry n = if n = k then x else s.entry n := by
  simp [State.entry, State.setEntry, Vector.getElem_set, Fin.ext_iff, eq_comm]

@[simp] theorem setEntry_entry_self (n : StationId) (x : StationEntry) : (s.setEntry n x).entry n = x := by
  simp [setEntry_entry]

theorem setEntry_entry_other {k n : StationId} (h : n ≠ k) (x : StationEntry) :
    (s.setEntry k x).entry n = s.entry n := by simp [setEntry_entry, h]

theorem setAccount_account (k n : StationId) (x : Account) :
    (s.setAccount k x).account n = if n = k then x else s.account n := by
  simp [State.account, State.setAccount, Vector.getElem_set, Fin.ext_iff, eq_comm]

@[simp] theorem setAccount_account_self (n : StationId) (x : Account) : (s.setAccount n x).account n = x := by
  simp [setAccount_account]

theorem setAccount_account_other {k n : StationId} (h : n ≠ k) (x : Account) :
    (s.setAccount k x).account n = s.account n := by simp [setAccount_account, h]

theorem setQueue_queue (k n : StationId) (x : List PoolEntry) :
    (s.setQueue k x).queue n = if n = k then x else s.queue n := by
  simp [State.queue, State.setQueue, Vector.getElem_set, Fin.ext_iff, eq_comm]

@[simp] theorem setQueue_queue_self (n : StationId) (x : List PoolEntry) : (s.setQueue n x).queue n = x := by
  simp [setQueue_queue]

theorem setQueue_queue_other {k n : StationId} (h : n ≠ k) (x : List PoolEntry) :
    (s.setQueue k x).queue n = s.queue n := by simp [setQueue_queue, h]

@[simp] theorem latch_latched (c : Cause) : (s.latch c).latched = s.latched ||| c.mask := rfl

@[simp] theorem latchIf_false (c : Cause) : s.latchIf false c = s := rfl

@[simp] theorem latchIf_true (c : Cause) : s.latchIf true c = s.latch c := rfl

@[simp] theorem send_down (r : Request) (a : Option (List Word)) : (s.send r a).down = s.down ++ [r] := rfl

@[simp] theorem send_outstanding (r : Request) (a : Option (List Word)) :
    (s.send r a).outstanding = s.outstanding ++ [{ req := r, answer := a }] := rfl

@[simp] theorem forward_down (r : Request) : (s.forward r).down = s.down ++ [r] := rfl

@[simp] theorem forward_outstanding (r : Request) :
    (s.forward r).outstanding = s.outstanding ++ [{ req := r, answer := none }] := rfl

@[simp] theorem pushFree_free (k : Nat) : (s.pushFree k).free = k :: s.free := rfl

@[simp] theorem setFree_free (k : List Nat) : (s.setFree k).free = k := rfl

@[simp] theorem popFree_free : s.popFree.free = s.free.tail := rfl

@[simp] theorem popFree_leastFree : s.popFree.leastFree = min s.leastFree s.free.tail.length := rfl

/-! ### The rest of the queue of commands

The step of a command runs on the state with the queue's rest. -/

@[simp] theorem withPending_lane (p : List Instr) (l : LaneId) : ({ s with pending := p } : State).lane l = s.lane l := by
  cases l <;> rfl

@[simp] theorem withPending_entry (p : List Instr) (n : StationId) :
    ({ s with pending := p } : State).entry n = s.entry n := rfl

@[simp] theorem withPending_account (p : List Instr) (n : StationId) :
    ({ s with pending := p } : State).account n = s.account n := rfl

@[simp] theorem withPending_queue (p : List Instr) (n : StationId) :
    ({ s with pending := p } : State).queue n = s.queue n := rfl

end Sys2Proof.Machine
end

