-- ==== Sys2Proof/Laws/Ops.lean ====
section
/-! SUPPORT. One lemma for each shared operation that says all it does, so that later proofs need not
unfold it. -/

namespace Sys2Proof.Machine

open Sys2Proof

variable (s : State)

/-! ### Tables -/

@[simp] theorem tabulate_getElem {α : Type} {k : Nat} (f : Fin k → α) (i : Nat) (h : i < k) :
    (tabulate f)[i] = f ⟨i, h⟩ := by unfold tabulate; simp

/-! ### Words -/

/-- A field of a word made from a sum is that sum's field. -/
theorem bits_wordOf (v hi lo : Nat) : bits (wordOf v) hi lo = v % 2 ^ 32 / 2 ^ lo % 2 ^ (hi + 1 - lo) := by
  simp [bits, wordOf]

/-! ### The free stack -/

/-- Entries pushed one after another: the last of the list ends on top, and nothing else changes. -/
theorem pushAll_eq (es : List PoolEntry) :
    s.pushAll es = s.setFree ((es.map PoolEntry.id).reverse ++ s.free) := by
  induction es generalizing s with
  | nil => rfl
  | cons e es ih =>
    have h : s.pushAll (e :: es) = (s.pushFree e.id).pushAll es := rfl
    rw [h, ih]; simp [State.pushFree, State.setFree]

/-! ### Accounts -/

/-- A refill visit refills exactly the Active stations of the lane in the group (R56). -/
theorem refillGroup_account (l : LaneId) (g : Fin 32) (n : StationId) :
    (refillGroup l g s).account n =
      if refilled s l g n then (s.account n).refill (s.entry n).shadow (s.lane l).quantum else s.account n := by
  simp [refillGroup, State.account]

@[simp] theorem refillGroup_lane (l k : LaneId) (g : Fin 32) : (refillGroup l g s).lane k = s.lane k := by cases k <;> rfl
@[simp] theorem refillGroup_entry (l : LaneId) (g : Fin 32) (n : StationId) : (refillGroup l g s).entry n = s.entry n := rfl
@[simp] theorem refillGroup_queue (l : LaneId) (g : Fin 32) (n : StationId) : (refillGroup l g s).queue n = s.queue n := rfl

/-! ### The transition to Absent -/

theorem becomeAbsent_entry (k n : StationId) :
    (becomeAbsent k s).entry n = if n = k then { s.entry n with lifecycle := .absent } else s.entry n := by
  simp only [becomeAbsent, setAccount_entry, setEntry_entry]; split <;> simp_all

theorem becomeAbsent_account (k n : StationId) :
    (becomeAbsent k s).account n = if n = k then (s.account n).close else s.account n := by
  simp only [becomeAbsent, setAccount_account, setEntry_account]; split <;> simp_all

@[simp] theorem becomeAbsent_lane (k : StationId) (l : LaneId) : (becomeAbsent k s).lane l = s.lane l := by
  simp [becomeAbsent]
@[simp] theorem becomeAbsent_queue (k n : StationId) : (becomeAbsent k s).queue n = s.queue n := by simp [becomeAbsent]

/-- What `retireIfLast` can do: the station was Retiring with no grant left in the lane and becomes Absent,
or nothing. -/
theorem retireIfLast_cases (l : LaneId) (n : StationId) :
    ((s.entry n).lifecycle = .retiring ∧ issuedCount (s.lane l) n = 0 ∧ retireIfLast l n s = becomeAbsent n s)
      ∨ (¬((s.entry n).lifecycle = .retiring ∧ issuedCount (s.lane l) n = 0) ∧ retireIfLast l n s = s) := by
  unfold retireIfLast; split <;> simp_all

/-- What `drainIfEmpty` can do: the lane was Draining with an empty issued list and becomes Off, or
nothing. -/
theorem drainIfEmpty_cases (l : LaneId) :
    ((s.lane l).laneState = .draining ∧ (s.lane l).issued = [] ∧ drainIfEmpty l s = s.setLane l (s.lane l).goOff)
      ∨ (¬((s.lane l).laneState = .draining ∧ (s.lane l).issued = []) ∧ drainIfEmpty l s = s) := by
  unfold drainIfEmpty; split <;> simp_all

/-! ### The staged slot -/

/-- A grant staged for a station sits in its shadow's lane and is the station's own (R82). -/
theorem stagedFor_eq_some {n : StationId} {e : PoolEntry} :
    stagedFor s n = some e ↔ (s.lane (s.entry n).shadow.lane).staged = some e ∧ e.owner = n := by
  unfold stagedFor
  split
  · split <;> grind
  · simp_all

/-- What `withdrawToHead` can do (R95). -/
theorem withdrawToHead_cases (n : StationId) :
    (∃ e, stagedFor s n = some e ∧
        withdrawToHead n s = (clearStaged (s.entry n).shadow.lane s).setQueue n (e :: s.queue n))
      ∨ (stagedFor s n = none ∧ withdrawToHead n s = s) := by
  unfold withdrawToHead
  split
  · next e h =>
    refine .inl ⟨e, h, ?_⟩
    have := ((stagedFor_eq_some s).1 h).2
    simp [returnToHead, this, clearStaged]
  · exact .inr ⟨by assumption, rfl⟩

/-- What `withdrawLane` can do (R95). -/
theorem withdrawLane_cases (l : LaneId) :
    (∃ e, (s.lane l).staged = some e ∧
        withdrawLane l s = (clearStaged l s).setQueue e.owner (e :: s.queue e.owner))
      ∨ ((s.lane l).staged = none ∧ withdrawLane l s = s) := by
  unfold withdrawLane
  split
  · next e h => exact .inl ⟨e, h, by simp [returnToHead, clearStaged]⟩
  · exact .inr ⟨by assumption, rfl⟩

/-- What `freeBacklog` does (R15, R34, R96): the staged entry is pushed first, then the queue from head to
tail. -/
theorem freeBacklog_cases (n : StationId) :
    (∃ e, stagedFor s n = some e ∧
        freeBacklog n s = ((clearStaged (s.entry n).shadow.lane s).setFree
          (((s.queue n).map PoolEntry.id).reverse ++ e.id :: s.free)).setQueue n [])
      ∨ (stagedFor s n = none ∧
        freeBacklog n s = (s.setFree (((s.queue n).map PoolEntry.id).reverse ++ s.free)).setQueue n []) := by
  unfold freeBacklog withdrawToFree
  split
  · next e h =>
    refine .inl ⟨e, h, ?_⟩
    simp [pushAll_eq, clearStaged, State.pushFree]; rfl
  · next h => exact .inr ⟨h, by simp [pushAll_eq]⟩

/-! ### The issued list -/

/-- The grant found at a slot is in the issued list and lies at that slot. -/
theorem grantAt_some {x : Lane} {k : Slot} {g : Grant} (h : x.grantAt k = some g) : g ∈ x.issued ∧ g.slot = k :=
  ⟨List.mem_of_find?_eq_some h, by simpa using List.find?_some h⟩

/-- Taking the grant at a slot out of the list takes out the one grant found there. -/
theorem dropGrant_perm {x : Lane} {k : Slot} {g : Grant} (h : x.grantAt k = some g) :
    x.issued.Perm (g :: (x.dropGrant k).issued) := by
  have key : ∀ gs : List Grant, gs.find? (fun g => g.slot == k) = some g →
      gs.Perm (g :: gs.eraseP (fun g => g.slot == k)) := by
    intro gs
    induction gs with
    | nil => simp
    | cons a gs ih =>
      intro h
      rw [List.find?_cons] at h
      rw [List.eraseP_cons]
      cases hc : (a.slot == k) with
      | true => simp_all
      | false =>
        simp only [hc] at h
        simpa using ((ih h).cons a).trans (List.Perm.swap g a _)
  exact key x.issued h

@[simp] theorem releaseGrant_lane (l k : LaneId) (g : Grant) :
    (releaseGrant l g s).lane k = if k = l then (s.lane l).dropGrant g.slot else s.lane k := by
  simp [releaseGrant, setLane_lane]
@[simp] theorem releaseGrant_entry (l : LaneId) (g : Grant) (n : StationId) : (releaseGrant l g s).entry n = s.entry n := by
  simp [releaseGrant]
@[simp] theorem releaseGrant_account (l : LaneId) (g : Grant) (n : StationId) :
    (releaseGrant l g s).account n = s.account n := by simp [releaseGrant]
@[simp] theorem releaseGrant_queue (l : LaneId) (g : Grant) (n : StationId) : (releaseGrant l g s).queue n = s.queue n := by
  simp [releaseGrant]
@[simp] theorem releaseGrant_free (l : LaneId) (g : Grant) : (releaseGrant l g s).free = g.entry.id :: s.free := by
  simp [releaseGrant]

/-! ### The scheduler clear -/

@[simp] theorem schedulerClear_lane (l : LaneId) : (schedulerClear s).lane l = (s.lane l).clear := by cases l <;> rfl
@[simp] theorem schedulerClear_queue (n : StationId) : (schedulerClear s).queue n = [] := by
  simp [schedulerClear, State.queue]
@[simp] theorem schedulerClear_account (n : StationId) : (schedulerClear s).account n = (s.account n).clear := by
  simp [schedulerClear, State.account]
@[simp] theorem schedulerClear_entry (n : StationId) : (schedulerClear s).entry n =
    if (s.entry n).lifecycle = .retiring then { s.entry n with lifecycle := .absent } else s.entry n := by
  simp [schedulerClear, State.entry]

/-! ### The state after reset -/

@[simp] theorem reset_lane (l : LaneId) : State.reset.lane l = Lane.reset := by cases l <;> rfl
@[simp] theorem reset_entry (n : StationId) : State.reset.entry n = StationEntry.reset := by
  simp [State.reset, State.entry]
@[simp] theorem reset_account (n : StationId) : State.reset.account n = Account.reset := by
  simp [State.reset, State.account]
@[simp] theorem reset_queue (n : StationId) : State.reset.queue n = [] := by simp [State.reset, State.queue]

end Sys2Proof.Machine
end

