-- ==== Sys2Proof/Laws/Lanes.lean ====
section
/-! SUPPORT. What a command can do to a lane, said once: every command takes each lane through a run of the
changes `LaneStep` lists, so that a promise about one lane is proved by one case for each change. -/

namespace Sys2Proof.Machine

open Sys2Proof

/-- One change of one lane. -/
inductive LaneStep : Lane → Lane → Prop
  | settings (x : Lane) (r : LaneRecord) : LaneStep x (x.takeSettings r)
  | enable (x : Lane) (k : Slot) (h : x.laneState = .off) : LaneStep x (x.enable k)
  | resume (x : Lane) (h : x.laneState = .draining) : LaneStep x { x with laneState := .running }
  | unstage (x : Lane) : LaneStep x { x with staged := none }
  | drain (x : Lane) (h : x.laneState = .running) (hs : x.staged = none) : LaneStep x { x with laneState := .draining }
  | off (x : Lane) (h : x.laneState ≠ .off) (hs : x.laneState = .running → x.staged = none) (hi : x.issued = []) : LaneStep x x.goOff
  | point (x : Lane) (c : ServiceClass) (n : StationId) : LaneStep x (x.setPointer c n)
  | stage (x : Lane) (e : Option PoolEntry) (h : x.laneState = .running) (hs : x.staged = none) : LaneStep x { x with staged := e }
  | issue (x : Lane) (g : Grant) (h : x.laneState = .running) (hr : x.hasRoom = true) (hk : g.slot = x.expected)
      (hq : g.seq = x.nextSeq) (he : g.estimate ≤ Config.estimateMax) : LaneStep x (x.issue g)
  | drop (x : Lane) (k : Slot) : LaneStep x (x.dropGrant k)
  | remember (x : Lane) (v : Vector (Option ExpiredRecord) 64) : LaneStep x { x with expired := v }
  | refillStart (x : Lane) (h : x.refillTimer = some 0) (hs : x.sweeping = false) :
      LaneStep x { x with refillTimer := some x.refillSetting.period, sweeping := true, position := 0, visitDue := false }
  | refillOwe (x : Lane) (h : x.refillTimer = some 0) (hs : x.sweeping = true) :
      LaneStep x { x with refillTimer := some x.refillSetting.period, owed := true }
  | refillLost (x : Lane) (h : x.refillTimer = some 0) (hs : x.sweeping = true) :
      LaneStep x { x with refillTimer := some x.refillSetting.period }
  | visit (x : Lane) (h : x.sweeping = true) : LaneStep x x.afterVisit
  | phase (x : Lane) (h : x.phaseTimer x.phase = some 0) : LaneStep x (x.startPhase x.phase.other)
  | tick (x : Lane) : LaneStep x x.tick
  | clear (x : Lane) : LaneStep x x.clear
  | reset (x : Lane) : LaneStep x Lane.reset

/-- Changes of one lane, one after another. -/
abbrev LaneSteps : Lane → Lane → Prop := Relation.ReflTransGen LaneStep

variable (s : State)

theorem LaneSteps.one {x y : Lane} (h : LaneStep x y) : LaneSteps x y := .single h

theorem LaneSteps.at {s t : State} {l k : LaneId} {y : Lane} (h : t = s.setLane k y) (hy : LaneSteps (s.lane k) y) :
    LaneSteps (s.lane l) (t.lane l) := by
  subst h; rw [setLane_lane]; split
  · subst_vars; exact hy
  · exact .refl

theorem steps_clearStaged (k l : LaneId) : LaneSteps (s.lane l) ((clearStaged k s).lane l) :=
  .at rfl (LaneSteps.one (.unstage _))

theorem steps_withdrawToHead (n : StationId) (l : LaneId) : LaneSteps (s.lane l) ((withdrawToHead n s).lane l) := by
  obtain ⟨e, -, h⟩ | ⟨-, h⟩ := withdrawToHead_cases s n <;> rw [h]
  simpa using steps_clearStaged ..

theorem steps_withdrawLane (k l : LaneId) : LaneSteps (s.lane l) ((withdrawLane k s).lane l) := by
  obtain ⟨e, -, h⟩ | ⟨-, h⟩ := withdrawLane_cases s k <;> rw [h]
  simpa using steps_clearStaged ..

theorem withdrawLane_staged (k : LaneId) : ((withdrawLane k s).lane k).staged = none := by
  obtain ⟨e, -, h⟩ | ⟨h', h⟩ := withdrawLane_cases s k <;> rw [h]
  · simp [clearStaged]
  · exact h'

theorem withdrawLane_state (k : LaneId) : ((withdrawLane k s).lane k).laneState = (s.lane k).laneState
   ∧ ((withdrawLane k s).lane k).issued = (s.lane k).issued := by
  obtain ⟨e, -, h⟩ | ⟨h', h⟩ := withdrawLane_cases s k <;> rw [h]
  · simp [clearStaged]
  · exact ⟨rfl, rfl⟩

theorem steps_freeBacklog (n : StationId) (l : LaneId) : LaneSteps (s.lane l) ((freeBacklog n s).lane l) := by
  obtain ⟨e, -, h⟩ | ⟨-, h⟩ := freeBacklog_cases s n <;> rw [h]
  · simpa using steps_clearStaged ..
  · simpa using .refl

theorem steps_retireIfLast (k : LaneId) (n : StationId) (l : LaneId) : (retireIfLast k n s).lane l = s.lane l := by
  obtain ⟨-, -, h⟩ | ⟨-, h⟩ := retireIfLast_cases s k n <;> rw [h]; simp

theorem steps_drainIfEmpty (k l : LaneId) : LaneSteps (s.lane l) ((drainIfEmpty k s).lane l) := by
  obtain ⟨h1, h2, h⟩ | ⟨-, h⟩ := drainIfEmpty_cases s k <;> rw [h]
  exact LaneSteps.at rfl (LaneSteps.one (.off _ (by simp [h1]) (by simp [h1]) h2))

theorem steps_releaseGrant (k : LaneId) (g : Grant) (l : LaneId) : LaneSteps (s.lane l) ((releaseGrant k g s).lane l) := by
  rw [releaseGrant_lane]; split
  · subst_vars; exact LaneSteps.one (.drop ..)
  · exact .refl

theorem steps_expireGrant (k : LaneId) (g : Grant) (l : LaneId) : LaneSteps (s.lane l) ((expireGrant k g s).lane l) := by
  unfold expireGrant
  refine .trans ?_ (steps_drainIfEmpty ..)
  rw [steps_retireIfLast]
  simp only [latch_lane, recordExpired]
  refine .trans ?_ (LaneSteps.at (k := k) rfl (LaneSteps.one (.remember ..)))
  refine .trans ?_ (steps_releaseGrant ..)
  simp [dropReservation]; exact .refl

theorem steps_grantExpiry (k : LaneId) (q : Slot) (l : LaneId) : LaneSteps (s.lane l) ((takeGrantExpiry k q s).lane l) := by
  unfold takeGrantExpiry
  split
  · split
    · exact steps_expireGrant ..
    · exact .refl
  · exact .refl

theorem steps_refillExpiry (k l : LaneId) : LaneSteps (s.lane l) ((takeRefillExpiry k s).lane l) := by
  simp only [takeRefillExpiry]
  split
  · split
    · exact LaneSteps.at rfl (LaneSteps.one (.refillStart _ (by assumption) (by assumption)))
    · split
      · exact LaneSteps.at rfl (LaneSteps.one (.refillOwe _ (by assumption) (by simp_all)))
      · rw [latch_lane]; exact LaneSteps.at rfl (LaneSteps.one (.refillLost _ (by assumption) (by simp_all)))
  · exact .refl

theorem steps_sweepVisit (k l : LaneId) : LaneSteps (s.lane l) ((takeSweepVisit k s).lane l) := by
  simp only [takeSweepVisit]
  split
  · next h =>
    have := LaneSteps.at (s := refillGroup k (s.lane k).position s) (l := l) (k := k) rfl (y := (s.lane k).afterVisit) (by simpa using .one (.visit _ h.1))
    simpa using this
  · exact .refl

theorem steps_phaseExpiry (k l : LaneId) : LaneSteps (s.lane l) ((takePhaseExpiry k s).lane l) := by
  simp only [takePhaseExpiry]
  split
  · exact LaneSteps.at rfl (LaneSteps.one (.phase _ (by assumption)))
  · exact .refl

theorem steps_foldExpiry (k l : LaneId) (qs : List Slot) :
    LaneSteps (s.lane l) ((qs.foldl (fun t q => takeGrantExpiry k q t) s).lane l) := by
  induction qs generalizing s with
  | nil => exact .refl
  | cons q qs ih => exact (steps_grantExpiry s k q l).trans (ih _)

theorem steps_due (k l : LaneId) : LaneSteps (s.lane l) ((takeDue k s).lane l) := by
  unfold takeDue
  refine .trans ?_ (steps_phaseExpiry ..)
  refine .trans ?_ (steps_refillExpiry ..)
  refine .trans ?_ (steps_sweepVisit ..)
  exact steps_foldExpiry ..

theorem steps_tick (l : LaneId) : LaneSteps (s.lane l) ((takeTick s).lane l) := by
  unfold takeTick
  split
  · exact .refl
  · refine .trans (steps_due s .a l) (.trans (steps_due _ .b l) ?_)
    cases l
    · exact LaneSteps.one (.tick _)
    · exact LaneSteps.one (.tick _)

theorem steps_staging (k l : LaneId) : LaneSteps (s.lane l) ((takeStaging k s).lane l) := by
  unfold takeStaging
  split
  · next h =>
    split
    · next n moved _ =>
      simp only [stage, setQueue_lane]
      refine LaneSteps.at rfl ?_
      cases moved with
      | none => exact LaneSteps.one (.stage _ _ h.1 h.2)
      | some c =>
        refine .trans (LaneSteps.one (.point _ c n)) ?_
        exact LaneSteps.one (.stage _ _ (by cases c <;> exact h.1) (by cases c <;> exact h.2))
    · exact .refl
  · exact .refl

theorem steps_issue (k l : LaneId) (e : PoolEntry) (h : (s.lane k).laneState = .running) (hr : (s.lane k).hasRoom = true) :
    LaneSteps (s.lane l) ((issueGrant k e s).lane l) := by
  simp only [issueGrant, preChargeStation, latchIf_lane, setAccount_lane]
  refine LaneSteps.at rfl (LaneSteps.one (.issue _ _ h hr rfl rfl ?_))
  simp [newGrant, estimateOf]

/-- What a request on the link can do to a lane. -/
theorem steps_request (r : Request) (l : LaneId) : LaneSteps (s.lane l) ((takeRequest r s).lane l) := by
  unfold takeRequest
  split
  case h_20 => simp [takePassThrough]; exact .refl
  case h_19 => simp [takePartialWrite]; exact .refl
  case h_1 n _ =>
    simp only [takeStationRecord]
    split <;> (try split) <;> (try split) <;>
      simp [refuseStation, answerStation, activateStation, rewriteStation] <;> exact .refl
  case h_2 n _ =>
    simp only [takeRemoval]
    split
    · simp [refuseStation, answerStation]; exact .refl
    · simp [answerStation]; exact .refl
    · simp only [answerStation, forward_lane, retireStation, steps_retireIfLast, setEntry_lane]
      exact steps_freeBacklog ..
  case h_3 n _ =>
    simp only [takePost]; split <;> simp [refusePost, answerPost, wakeOnPost, appendPost]
    · exact .refl
    · split <;> simp [setDozing] <;> exact .refl
  case h_4 n _ =>
    simp only [takeFlush]; split <;> simp [refusePost, answerPost]
    · exact .refl
    · exact steps_freeBacklog ..
  case h_5 n _ =>
    simp only [takeHold]; split <;> simp [refusePost, answerPost]
    · exact .refl
    · refine .trans ?_ (steps_withdrawToHead ..); simp [setHeld]; exact .refl
  case h_6 n _ => simp only [takeRelease]; split <;> simp [refusePost, answerPost, setHeld] <;> exact .refl
  case h_7 n _ =>
    simp only [takeDoze]; split
    · simp [refusePost, answerPost]; exact .refl
    · split <;> simp [refusePost, answerPost]
      · exact .refl
      · refine .trans ?_ (steps_withdrawToHead ..); simp [setDozing]; exact .refl
  case h_8 n _ => simp only [takeWake]; split <;> simp [refusePost, answerPost, setDozing] <;> exact .refl
  case h_9 n _ => simp [takeBadCommand, refusePost, answerPost]; exact .refl
  case h_10 =>
    simp only [takeGlobalControl]; split
    · simp [refuseGlobal]; exact .refl
    · cases l <;> simp [takeGlobalSettings, State.lane] <;> exact .refl
  case h_11 =>
    simp only [takeSchedulerClear, forward_lane, schedulerClear_lane]
    cases l <;> exact LaneSteps.one (.clear _)
  case h_12 k _ =>
    simp only [takeLaneEnable, answerLane, forward_lane]
    refine .trans (LaneSteps.at (t := takeLaneSettings k r s) rfl (LaneSteps.one (.settings ..))) ?_
    simp only [applyEnable]; split
    · exact LaneSteps.at rfl (LaneSteps.one (.enable _ _ (by assumption)))
    · exact .refl
    · exact LaneSteps.at rfl (LaneSteps.one (.resume _ (by assumption)))
  case h_13 k _ =>
    simp only [takeLaneDisable, answerLane, forward_lane]
    refine .trans (LaneSteps.at (t := takeLaneSettings k r s) rfl (LaneSteps.one (.settings ..))) ?_
    generalize takeLaneSettings k r s = s
    simp only [applyDisable]; split
    · exact .refl
    · next h =>
      refine .trans (steps_withdrawLane s k l) ?_
      have hw := withdrawLane_state s k
      split
      · exact LaneSteps.at rfl (LaneSteps.one (.off _ (by simp [hw.1, h]) (fun _ => withdrawLane_staged s k) (by simpa [hw.2])))
      · exact LaneSteps.at rfl (LaneSteps.one (.drain _ (by rw [hw.1]; exact h) (withdrawLane_staged s k)))
    · next h =>
      split
      · exact LaneSteps.at rfl (LaneSteps.one (.off _ (by simp [h]) (by simp [h]) (by assumption)))
      · exact .refl
  case h_14 => simp [takeStationProbe]; exact .refl
  case h_15 => simp [takeLaneProbe]; exact .refl
  case h_16 => cases l <;> simp [takePoolProbe, State.lane] <;> exact .refl
  case h_17 => cases l <;> simp [takeAttentionProbe, State.lane] <;> exact .refl
  case h_18 => simp [takeBadProbe]; exact .refl
  case h_21 k q w _ =>
    simp only [takeRingRead]
    split
    · simp; exact .refl
    · simp; exact .refl
    · simp; exact .refl
    · split
      · simp only [readExpected]; split
        · split
          · simp only [answerRead, send_lane]; exact steps_issue _ _ _ _ (by assumption) (by assumption)
          · simp [answerRead]; exact .refl
        · simp [answerRead]; exact .refl
      · split <;> simp [answerRead] <;> exact .refl
    · split <;> simp [answerRead] <;> exact .refl
  case h_22 k q w _ =>
    simp only [takeCompletion]
    split
    · simp; exact .refl
    · split
      · simp; exact .refl
      · split
        · simp only [classifyCompletion]; split
          · split
            · simp only [matchedCompletion, answerCompletion, forward_lane]
              refine .trans ?_ (steps_drainIfEmpty ..)
              rw [steps_retireIfLast]
              refine .trans ?_ (steps_releaseGrant ..)
              simp [correctStation]; exact .refl
            · simp [unmatchedCompletion, answerCompletion]; exact .refl
          · split
            · split <;> simp [lateCompletion, unmatchedCompletion, answerCompletion] <;> exact .refl
            · simp [unmatchedCompletion, answerCompletion]; exact .refl
        · simp [answerCompletion]; exact .refl

/-- Every command takes each lane through a run of the changes of `LaneStep`. -/
theorem exec_lane {c : Instr} {s t : State} (h : exec c s = .next t) (l : LaneId) : LaneSteps (s.lane l) (t.lane l) := by
  cases c
  case powerOnReset =>
    simp only [exec, execPowerOnReset] at h; cases h
    exact LaneSteps.one (by cases l <;> exact .reset _)
  case resetEnd => simp only [exec, execResetEnd] at h; cases h; unfold takeResetEnd; split <;> exact .refl
  case timebaseTick => simp only [exec, execTimebaseTick] at h; cases h; exact steps_tick ..
  case refillExpiry => simp only [exec, execRefillExpiry] at h; cases h; exact steps_refillExpiry ..
  case sweepVisit => simp only [exec, execSweepVisit] at h; cases h; exact steps_sweepVisit ..
  case phaseExpiry => simp only [exec, execPhaseExpiry] at h; cases h; exact steps_phaseExpiry ..
  case grantExpiry => simp only [exec, execGrantExpiry] at h; cases h; exact steps_grantExpiry ..
  case stagingDecision => simp only [exec, execStagingDecision] at h; cases h; exact steps_staging ..
  case readResponse => simp only [exec, execReadResponse] at h; cases h; unfold takeResponse; split <;> cases l <;> exact .refl
  all_goals
    simp at h; subst h; exact steps_request ..

end Sys2Proof.Machine
end

