-- ==== Sys2Proof/Tests/Slice0.lean ====
section
/-! SUPPORT. The model's own tests: the checks of WellFormed on ill-formed commands, the worked examples of the spec,
and for each statement with hypotheses a state and operands that meet them. -/

namespace Sys2Proof.Tests

-- One theorem at a time: each evaluation in the kernel holds a thread while it waits.
set_option Elab.async false

open Sys2Proof Sys2Proof.Machine

/-! ### Building requests and states -/

/-- A write with every byte enable set, at an offset from the window base 0x40000000. -/
def write (source : BitVec 4) (off : Nat) (ws : List Word) : Request :=
  { source := source, kind := .write, addr := BitVec.ofNat 32 (0x40000000 + off), enables := ws.map (fun _ => 0xF),
    data := ws }

/-- A read of four words with every byte enable set, at an offset from the window base. -/
def read (source : BitVec 4) (off : Nat) : Request :=
  { source := source, kind := .read, addr := BitVec.ofNat 32 (0x40000000 + off), enables := List.replicate 4 0xF,
    data := [] }

/-- The part as reset leaves it, brought out of reset with WBASE at 0x40. -/
def up : State := { State.reset with base := some 0x40000000 }

/-- The shadow of the station of section 1.6, line 3, on a lane and in a mode. -/
def shadow (l : LaneId) (m : ModeCode) : Shadow :=
  { kind := .veryHighThroughput, mode := m, lane := l, weight := 4, depthLimit := 3, rate := 780, ceiling := 1000 }

/-- An Active entry with clear flags. -/
def active (l : LaneId) (m : ModeCode) : StationEntry :=
  { lifecycle := .active, held := false, dozing := false, shadow := shadow l m }

/-- A Retiring entry. -/
def retiring (l : LaneId) (m : ModeCode) : StationEntry :=
  { lifecycle := .retiring, held := false, dozing := false, shadow := shadow l m }

/-- A pool entry of a station: 600 bytes at an address made from its number. -/
def frame (id : Nat) (n : StationId) : PoolEntry := { id := id, addr := BitVec.ofNat 32 (4096 * id), len := 600, owner := n }

/-- A grant of a frame at a slot. -/
def grant (e : PoolEntry) (k : Slot) (seq : BitVec 8) : Grant :=
  { entry := e, seq := seq, slot := k, estimate := 915, clamped := false, deadline := 22800 }

/-- A station put into a state with its entry, credit and queue. -/
def withStation (n : StationId) (e : StationEntry) (credit : Int) (q : List PoolEntry) (s : State) : State :=
  ((s.setEntry n e).setAccount n { Account.reset with credit := credit }).setQueue n q

/-- A lane that has just been enabled at slot 10 in ALTERNATE mode. -/
def running : Lane := Lane.reset.enable 10

/-- Station 12 Active on lane B, shared class, with credit 2000 and two queued frames. -/
def posted : State :=
  withStation 12 (active .b .unicastShared) 2000 [frame 1 12, frame 2 12] { up with laneB := running }

/-- As `posted`, with a frame staged in lane B. -/
def staged : State := posted.setLane .b { running with staged := some (frame 3 12) }

/-- As `posted`, with a grant issued at slot 9 of lane B and the record of an expired one at slot 8. -/
def issued : State :=
  (posted.setLane .b { running with
    nextSeq := 8,
    issued := [grant (frame 3 12) 9 7],
    expired := (Vector.replicate 64 none).set 8 (some { addr := 0x9000, station := 12 }) }).setAccount 12
      { Account.reset with credit := 2000, reservation := 915 }

/-- As `issued`, with lane B Draining. -/
def draining : State := issued.setLane .b { issued.lane .b with laneState := .draining }

/-- As `draining`, with station 12 Retiring. -/
def leaving : State := draining.setEntry 12 (retiring .b .unicastShared)

/-- Word `k` of the last request sent downstream. -/
def lastWord (k : Nat) (s : State) : Option Word := s.down.getLast?.map (fun r => reqWord r k)

/-- What holds of the state that a command leaves. -/
def after (c : Instr) (s : State) (p : State → Bool) : Bool :=
  match exec c s with
  | .next t => p t
  | .fault _ => false
  | .refused _ => false

/-! ### WellFormed refuses an ill-formed command of each kind -/

/-- A whole station record write of station 40 (section 1.6, line 1). -/
def record40 : Request := write 0 0x4500 [0x07000413, 0x05DC1388, 0, 0, 0, 0, 0, 0]

theorem test_wf_accepts_record : (Instr.stationRecordWrite record40).wf = true := by decide +kernel

theorem test_wf_refuses_unaligned_address :
    (Instr.passThrough { record40 with addr := 0x40004502 }).wf = false := by decide +kernel

theorem test_wf_refuses_no_words :
    (Instr.passThrough { record40 with enables := [], data := [] }).wf = false := by decide +kernel

theorem test_wf_refuses_nine_words :
    (Instr.passThrough (write 0 0x60 (List.replicate 9 0))).wf = false := by decide +kernel

theorem test_wf_refuses_write_without_data :
    (Instr.passThrough { record40 with data := [0, 0] }).wf = false := by decide +kernel

theorem test_wf_refuses_read_with_data :
    (Instr.ringRead { read 1 0x8050 with data := [0] }).wf = false := by decide +kernel

theorem test_wf_refuses_record_outside_its_region :
    (Instr.stationRecordWrite { record40 with addr := 0x40000080 }).wf = false := by decide +kernel

theorem test_wf_refuses_removal_as_record :
    (Instr.stationRecordWrite (write 0 0x4500 [0x07000000, 0, 0, 0, 0, 0, 0, 0])).wf = false
      ∧ (Instr.removalRequest record40).wf = false := by decide +kernel

theorem test_wf_refuses_other_post_commands :
    (Instr.post (write 0 0x2090 [2, 0, 0, 0])).wf = false ∧ (Instr.flush (write 0 0x2090 [3, 0, 0, 0])).wf = false
      ∧ (Instr.hold (write 0 0x2090 [4, 0, 0, 0])).wf = false ∧ (Instr.release (write 0 0x2090 [5, 0, 0, 0])).wf = false
      ∧ (Instr.doze (write 0 0x2090 [6, 0, 0, 0])).wf = false ∧ (Instr.wake (write 0 0x2090 [7, 0, 0, 0])).wf = false
      ∧ (Instr.badCommand (write 0 0x2090 [1, 0, 0, 0])).wf = false := by decide +kernel

theorem test_wf_refuses_other_control_records :
    (Instr.globalControlWrite (write 0 0 [0x80000201, 0, 0, 0, 0, 0, 0, 0])).wf = false
      ∧ (Instr.schedulerClear (write 0 0 [0x00000201, 0, 0, 0, 0, 0, 0, 0])).wf = false
      ∧ (Instr.laneEnable (write 0 0x20 [0, 0, 0, 0, 0, 0, 0, 0])).wf = false
      ∧ (Instr.laneDisable (write 0 0x20 [1, 0, 0, 0, 0, 0, 0, 0])).wf = false := by decide +kernel

theorem test_wf_refuses_other_probes :
    (Instr.stationProbe (write 0 0x100 [2, 0, 0, 0, 0, 0, 0, 0])).wf = false
      ∧ (Instr.laneProbe (write 0 0x100 [0x00020002, 0, 0, 0, 0, 0, 0, 0])).wf = false
      ∧ (Instr.poolProbe (write 0 0x100 [4, 0, 0, 0, 0, 0, 0, 0])).wf = false
      ∧ (Instr.attentionProbe (write 0 0x100 [3, 0, 0, 0, 0, 0, 0, 0])).wf = false
      ∧ (Instr.badProbe (write 0 0x100 [3, 0, 0, 0, 0, 0, 0, 0])).wf = false := by decide +kernel

theorem test_wf_refuses_whole_write_as_partial : (Instr.partialWrite record40).wf = false := by decide +kernel

theorem test_wf_refuses_ring_commands_elsewhere :
    (Instr.ringRead (read 1 0x7FF0)).wf = false ∧ (Instr.completion (read 1 0x8050)).wf = false := by decide +kernel

theorem test_wf_refuses_nine_word_response :
    (Instr.readResponse 0 .good (List.replicate 9 0)).wf = false := by decide +kernel

/-! ### Where requests go: section 8.8, "A mixed stream of requests" -/

theorem test_route_outside :
    classify up { write 0 0 (List.replicate 8 0) with addr := 0x3FFFFFE0 } = .passThrough
      ∧ classify up { write 0 0 (List.replicate 8 0) with addr := 0x3FFFFFF8 } = .passThrough := by decide +kernel

theorem test_route_station_record :
    classify up (write 0 0x4040 [0x1, 0, 0, 0, 0, 0, 0, 0]) = .stationRecord 2
      ∧ classify up (write 0 0x4044 (List.replicate 7 0)) = .partialWrite
      ∧ classify up (write 1 0x4040 [0x1, 0, 0, 0, 0, 0, 0, 0]) = .passThrough := by decide +kernel

theorem test_route_partial_post : classify up (write 0 0x2000 (List.replicate 8 0)) = .partialWrite := by decide +kernel

theorem test_route_unnamed : classify up (write 0 0x80 (List.replicate 8 0)) = .passThrough := by decide +kernel

theorem test_route_ring :
    classify up (read 1 0x8050) = .ringRead .a 5 true ∧ classify up (read 1 0x8400) = .passThrough
      ∧ classify up (read 2 0x8400) = .ringRead .b 0 true ∧ classify up (write 0 0x8050 [0, 0, 0, 0]) = .passThrough
      ∧ classify up (read 0 0x8050) = .passThrough ∧ classify up (read 1 0x8058) = .ringRead .a 5 false := by
  decide +kernel

/-- The post of section 8.8, with one byte enable of its last word clear: partial. -/
theorem test_route_post_with_a_clear_enable :
    classify up { write 0 0x2090 [0x2101, 0, 1500, 0] with enables := [0xF, 0xF, 0xF, 0x7] } = .partialWrite := by
  decide +kernel

/-! ### Words: section 3.3, R48's samples; section 3.8, R60's table; section 10.9 -/

theorem test_estimates :
    estimateOf 1500 130 176 = 915 ∧ estimateOf 600 130 176 = 472 ∧ estimateOf 200 108 176 = 295
      ∧ estimateOf 1500 4800 176 = 196 ∧ estimateOf 64 4800 0 = 1 ∧ estimateOf 1023 2 0 = 32736
      ∧ estimateOf 1024 2 0 = 32767 ∧ estimateClamped 1024 2 0 = true ∧ estimateClamped 1023 2 0 = false
      ∧ estimateOf 16383 2 4095 = 32767 := by decide +kernel

/-- Section 10.2, every field of a record at a value of its own. -/
theorem test_station_record_fields :
    readStationRecord (write 0 0x4000 [0xA5070C16, 0x12340ABC, 0, 0, 0, 0, 0, 0]) =
      { kind := .highThroughput, mode := .unicastReserved, lane := .b, weight := 0x0C, depthLimit := 0x07,
        generation := 0xA5, rate := 0xABC, ceiling := 0x1234 } := by decide +kernel

/-- Section 10.5, every field of a record at a value of its own. -/
theorem test_lane_record_fields :
    readLaneRecord (write 0 0x20 [0x00010A01, 0x00030011, 0x00040022, 0x00050033, 0x00060044, 0x00B00064, 0, 0]) =
      { enable := true, start := 10, modeCode := 1, reserved := { preset := 0x11, code := 3 },
        shared := { preset := 0x22, code := 4 }, refill := { preset := 0x33, code := 5 },
        timeout := { preset := 0x44, code := 6 }, quantum := 100, overhead := 176 } := by decide +kernel

/-- Section 10.8, with the enable set of section 9.7: POST_REFUSED and GRANT_EXPIRED are 0x404. -/
theorem test_cause_numbering :
    Cause.postRefused.mask ||| Cause.grantExpired.mask = 0x404
      ∧ Cause.recordRefused.mask ||| Cause.partialWrite.mask ||| Cause.poolLow.mask = 0x00B
      ∧ Cause.creditFloor.mask ||| Cause.ringOrder.mask ||| Cause.completionUnmatched.mask = 0x150
      ∧ Cause.refillOverrun.mask ||| Cause.completionFraming.mask ||| Cause.lateCompletion.mask = 0x2A0 := by decide +kernel

theorem test_estimate_views : estimateView 915 = 229 ∧ estimateView 472 = 118 ∧ estimateView 32767 = 8192 := by
  decide +kernel

theorem test_credit_views :
    creditView 848 = 212 ∧ creditView (-548) = -137 ∧ creditView (-549) = -137 ∧ creditView (-3) = 0
      ∧ creditView 131071 = 32767 ∧ creditView 131072 = 32767 ∧ creditView 262140 = 32767
      ∧ creditView (-131075) = -32768 ∧ creditView (-131076) = -32768 ∧ creditView (-8388608) = -32768 := by
  decide +kernel

theorem test_matched_note : matchedNote 12 8 85 false = 0x81880015 := by decide +kernel

theorem test_periods :
    TimerSetting.period { preset := 249, code := 1 } = 1000 ∧ TimerSetting.period { preset := 63, code := 3 } = 1024
      ∧ TimerSetting.period { preset := 255, code := 3 } = 4096 ∧ TimerSetting.period { preset := 199, code := 5 } = 12800
      ∧ TimerSetting.period { preset := 4, code := 1 } = 20 := by decide +kernel

/-! ### Station records: section 1.6 -/

/-- Line 1: rate 5000 becomes 4800 and depth 0 becomes 1, with both flags and generation 7. -/
theorem test_record_activates :
    after (.stationRecordWrite record40) up (fun t =>
      (t.entry 40).lifecycle == .active && (t.entry 40).shadow.rate == 4800 && (t.entry 40).shadow.depthLimit == 1
        && (t.entry 40).shadow.lane == .b && (t.account 40).credit == 0 && lastWord 7 t == some 0x07000302) = true := by
  decide +kernel

/-- Line 3: a ceiling of 1000 µs takes a credit of 5200 AU to 4000 AU. -/
theorem test_record_lowers_credit :
    after (.stationRecordWrite (write 0 0x4500 [0x08200413, 0x03E8030C, 0, 0, 0, 0, 0, 0]))
      (withStation 40 (active .b .unicastShared) 5200 [] up) (fun t =>
        (t.account 40).credit == 4000 && (t.entry 40).shadow.depthLimit == 32 && lastWord 7 t == some 0x08000001) = true := by
  decide +kernel

/-- Lines 8 and 10: a removal with a grant in flight makes the station Retiring and frees its queue. -/
theorem test_removal_retires :
    after (.removalRequest (write 0 0x4180 [0x0B000000, 0, 0, 0, 0, 0, 0, 0])) issued (fun t =>
      (t.entry 12).lifecycle == .retiring && (t.queue 12).length == 0 && t.free.take 2 == [2, 1]
        && lastWord 7 t == some 0x0B000001) = true := by decide +kernel

/-! ### Post slots: section 2.13 -/

/-- Line 1: the first post of a station; the pool pops entry 0. -/
theorem test_post_accepted :
    after (.post (write 0 0x2090 [1, 0x1003, 1500, 0])) (withStation 9 (active .a .unicastShared) 100 [] up) (fun t =>
      t.queue 9 == [{ id := 0, addr := 0x1000, len := 1500, owner := 9 }] && t.free.length == 4095
        && lastWord 3 t == some 0x0FFF0101) = true := by decide +kernel

/-- Line 5: two queued frames and a staged one are the limit of 3. -/
theorem test_post_station_full :
    after (.post (write 0 0x20C0 [1, 0x1000, 600, 0])) staged (fun t =>
      t.queue 12 == staged.queue 12 && t.isLatched .postRefused && lastWord 3 t == some 0x10000209) = true := by
  decide +kernel

/-- Line 6: the staged frame returns to the head of the queue. -/
theorem test_hold_returns_staged :
    after (.hold (write 0 0x20C0 [3, 0, 0, 0])) staged (fun t =>
      (t.queue 12).map PoolEntry.id == [3, 1, 2] && (t.lane .b).staged == none && (t.entry 12).held
        && lastWord 3 t == some 0x10000301) = true := by decide +kernel

/-- Line 7: DOZE without a staged grant only sets the flag. -/
theorem test_doze_sets_flag :
    after (.doze (write 0 0x20C0 [5, 0, 0, 0])) posted (fun t =>
      (t.entry 12).dozing && (t.queue 12).length == 2) = true := by decide +kernel

/-- Line 8: RELEASE clears the held flag alone. -/
theorem test_release_clears_held :
    after (.release (write 0 0x20C0 [4, 0, 0, 0]))
      (posted.setEntry 12 { active .b .unicastShared with held := true, dozing := true }) (fun t =>
        !(t.entry 12).held && (t.entry 12).dozing) = true := by decide +kernel

theorem test_wake_clears_dozing :
    after (.wake (write 0 0x20C0 [6, 0, 0, 0]))
      (posted.setEntry 12 { active .b .unicastShared with held := true, dozing := true }) (fun t =>
        (t.entry 12).held && !(t.entry 12).dozing) = true := by decide +kernel

/-- Line 9: the staged frame is pushed first, the queue's tail last, so that it is on top. -/
theorem test_flush_frees :
    after (.flush (write 0 0x20C0 [2, 0, 0, 0])) staged (fun t =>
      t.free.take 3 == [2, 1, 3] && (t.queue 12).length == 0 && lastWord 3 t == some 0x10030001) = true := by
  decide +kernel

theorem test_bad_command :
    after (.badCommand (write 0 0x20C0 [7, 0, 0, 0])) posted (fun t =>
      t.isLatched .postRefused && lastWord 3 t == some 0x1000020B) = true := by decide +kernel

/-! ### Control records: section 9.7 -/

/-- Line 1: radios 3 and 3. -/
theorem test_global_conflict :
    after (.globalControlWrite (write 0 0 [0x303, 500, 0x404, 0, 0, 0, 0, 0])) up (fun t =>
      t.radioA == 1 && t.radioB == 2 && t.watermark == 0 && t.enabled == 0 && t.isLatched .recordRefused && !t.attnLow
        && lastWord 7 t == some 12) = true := by decide +kernel

/-- Line 2: watermark 5000 becomes 4095. -/
theorem test_global_accepted :
    after (.globalControlWrite (write 0 0 [0x403, 5000, 0x404, 0, 0, 0, 0, 0])) up (fun t =>
      t.radioA == 3 && t.radioB == 4 && t.watermark == 4095 && t.enabled == 0x404 && lastWord 7 t == some 0x102) = true := by
  decide +kernel

/-- Line 6: the clear empties the queues and the issued lists. -/
theorem test_scheduler_clear :
    after (.schedulerClear (write 0 0 [0x80000201, 1000, 0x400, 0, 0, 0, 0, 0])) leaving (fun t =>
      (t.queue 12).length == 0 && (t.lane .b).issued.length == 0 && t.free.head? == some 0
        && (t.lane .b).laneState == .draining && lastWord 7 t == some 0x201) = true := by decide +kernel

/-- Section 4.9: reserved phase 1024 µs, shared 4096 µs, refill 1000 µs; section 6.9: start slot 10. -/
theorem test_lane_enable :
    after (.laneEnable (write 0 0x20 [0x0A01, 0x3003F, 0x300FF, 0x100F9, 0x500C7, 0x00B00040, 0, 0])) up (fun t =>
      (t.lane .a).laneState == .running && (t.lane .a).expected == 10 && (t.lane .a).reservedTimer == some 1024
        && (t.lane .a).sharedTimer == none && (t.lane .a).refillTimer == some 1000 && (t.lane .a).overhead == 176
        && lastWord 7 t == some 0x10001) = true := by decide +kernel

/-- Section 6.9, line 13: a disable with a grant in flight drains the lane and returns the staged frame. -/
theorem test_lane_disable :
    after (.laneDisable (write 0 0x40 [0, 0x300FF, 0x300FF, 0x100F9, 0x500C7, 0x00B00040, 0, 0]))
      (issued.setLane .b { issued.lane .b with staged := some (frame 4 12) }) (fun t =>
        (t.lane .b).laneState == .draining && (t.lane .b).staged == none && (t.queue 12).map PoolEntry.id == [4, 1, 2]
          && lastWord 7 t == some 0x20001) = true := by decide +kernel

/-! ### Probes: section 9.7 and section 10.6 -/

/-- Line 5: the snapshot carries the latched causes and the enables, and the set is then empty. -/
theorem test_attention_probe :
    after (.attentionProbe (write 0 0x100 [4, 0, 0, 0, 0, 0, 0, 0])) { up with latched := 5, enabled := 0x400 } (fun t =>
      t.latched == 0 && lastWord 1 t == some 1 && lastWord 2 t == some 5 && lastWord 3 t == some 0x400) = true := by
  decide +kernel

/-- The drive of ATTN_N is bit 4 of the snapshot. -/
theorem test_attention_probe_drive :
    after (.attentionProbe (write 0 0x100 [4, 0, 0, 0, 0, 0, 0, 0])) { up with latched := 5, enabled := 4 } (fun t =>
      lastWord 1 t == some 0x11 && !t.attnLow) = true := by decide +kernel

/-- Fields by section 10.6: Active, lane B, staged, no last outcome, kind 3, depth 2. -/
theorem test_station_probe :
    after (.stationProbe (write 0 0x100 [0x000C0001, 0, 0, 0, 0, 0, 0, 0])) staged (fun t =>
      lastWord 1 t == some 0x02306911 && lastWord 2 t == some 0x0304030C && lastWord 3 t == some 1000
        && lastWord 4 t == some 2000) = true := by decide +kernel

/-- Fields by section 10.6: Running, one grant issued at slot 9 with sequence 7 for station 12, source 2. -/
theorem test_lane_probe :
    after (.laneProbe (write 0 0x100 [0x00010002, 0, 0, 0, 0, 0, 0, 0])) issued (fun t =>
      lastWord 1 t == some 0x02001011 && lastWord 2 t == some 0x80A && lastWord 3 t == some 0x000C0709
        && lastWord 4 t == some 0) = true := by decide +kernel

theorem test_pool_probe :
    after (.poolProbe (write 0 0x100 [3, 0, 0, 0, 0, 0, 0, 0])) { up with watermark := 1000, leastFree := 4000 } (fun t =>
      t.leastFree == 4096 && lastWord 2 t == some 0x03E81000 && lastWord 3 t == some 4000) = true := by decide +kernel

theorem test_bad_probe :
    after (.badProbe (write 0 0x100 [0x02000001, 0, 0, 0, 0, 0, 0, 0])) up (fun t =>
      t.isLatched .recordRefused && lastWord 1 t == some 13) = true := by decide +kernel

/-! ### Rings: sections 3.9, 6.9 and 7.7 -/

/-- Lane A of section 3.9, line 4: rate 130, overhead 176, a 1500-byte frame staged for station 17. -/
def issuing : State :=
  withStation 17 { active .a .unicastShared with shadow := { shadow .a .unicastShared with rate := 130 } } 300 []
    { up with
      count := 10000,
      laneA := { running with overhead := 176, staged := some { id := 5, addr := 0x5000, len := 1500, owner := 17 } } }

/-- The issue charges 915 AU and answers with the grant: 229 µs, sequence 0, station 17. -/
theorem test_ring_read_issues :
    after (.ringRead (read 1 0x80A0)) issuing (fun t =>
      (t.account 17).credit == -615 && (t.account 17).reservation == 915 && (t.lane .a).expected == 11
        && (t.lane .a).issued.map Grant.deadline == [22800]
        && t.outstanding.map Outstanding.answer == [some [0x81100000, 0x5000, 1500, 229]]) = true := by decide +kernel

/-- Section 6.9, line 8: a wrong slot is empty and latches RING_ORDER. -/
theorem test_ring_read_wrong_slot :
    after (.ringRead (read 1 0x8140)) issuing (fun t =>
      t.isLatched .ringOrder && t.outstanding.map Outstanding.answer == [some [0, 0, 0, 0]]
        && (t.lane .a).expected == 10) = true := by decide +kernel

/-- Section 7.7, line 3, with one grant: 2000 + 915 − 1000 = 1915 AU, view 478. -/
theorem test_completion_matches :
    after (.completion (write 2 0x8490 [0, 0x3000, 250, 0])) issued (fun t =>
      (t.account 12).credit == 1915 && (t.account 12).lastOutcome == some .delivered && (t.lane .b).issued.length == 0
        && t.free.head? == some 3 && lastWord 3 t == some 0x818701DE) = true := by decide +kernel

/-- Section 7.7, lines 4, 5 and 8: the notes UNMATCHED, FRAMING and LATE. -/
theorem test_completion_notes :
    after (.completion (write 2 0x84A0 [0, 0x3000, 250, 0])) issued (fun t => lastWord 3 t == some 0x20000)
      && after (.completion (write 2 0x8490 [3, 0x3000, 250, 0])) issued (fun t => lastWord 3 t == some 0x30000)
      && after (.completion (write 2 0x8480 [0, 0x9000, 3000, 0])) issued (fun t => lastWord 3 t == some 0x01810000)
        = true := by decide +kernel

/-- A response to an answered ring read carries the part's words and memory's status. -/
theorem test_read_response :
    after (.readResponse 0 .error [9, 9, 9, 9]) (up.send (read 1 0x80A0) (some [1, 2, 3, 4])) (fun t =>
      t.outstanding.length == 0 && t.up.map (fun x => (x.status, x.words)) == [(.error, [1, 2, 3, 4])]) = true := by
  decide +kernel

/-! ### Time: sections 4.9, 5.10 and 7.7 -/

theorem test_tick_counts :
    after .timebaseTick { up with count := 0xFFFFFFFF, laneA := running } (fun t =>
      t.count == 0 && (t.lane .a).refillTimer == some 999 && (t.lane .a).reservedTimer == some 4095
        && (t.lane .a).sharedTimer == none) = true := by decide +kernel

/-- An expiry that finds a sweep and the flag set is lost and latches REFILL_OVERRUN. -/
theorem test_refill_overrun :
    after (.refillExpiry .b) { up with laneB := { running with refillTimer := some 0, sweeping := true, owed := true } }
      (fun t => t.isLatched .refillOverrun && (t.lane .b).owed && (t.lane .b).refillTimer == some 1000) = true := by
  decide +kernel

/-- The visit to group 0 refills station 12 by 4 × 64, and the sweep moves on. -/
theorem test_sweep_visit :
    ((refillGroup .b 0 posted).account 12).credit = 2256
      ∧ after (.sweepVisit .b) (posted.setLane .b { running with sweeping := true, visitDue := true }) (fun t =>
        (t.lane .b).position == 1 && !(t.lane .b).visitDue) = true := by
  rw [refillGroup_account]; decide +kernel

theorem test_phase_expiry :
    after (.phaseExpiry .a) { up with laneA := { running with reservedTimer := some 0 } } (fun t =>
      (t.lane .a).phase == .shared && (t.lane .a).reservedTimer == none && (t.lane .a).sharedTimer == some 4096) = true := by
  decide +kernel

/-- Section 7.7, line 7: the last grant of a Retiring station expires. -/
theorem test_grant_expiry :
    after (.grantExpiry .b 9) { leaving with count := 22800 } (fun t =>
      (t.entry 12).lifecycle == .absent && (t.account 12).credit == 0 && t.free.head? == some 3
        && (t.lane .b).laneState == .off && (t.lane .b).expired[9] == some { addr := 0x3000, station := 12 }
        && t.isLatched .grantExpired) = true := by decide +kernel

/-- Section 5.10, line 1: the scan from one above the pointer finds the station. -/
theorem test_staging :
    after (.stagingDecision .b) (posted.setLane .b { running with phase := .shared }) (fun t =>
      (t.lane .b).staged == some (frame 1 12) && (t.lane .b).sharedPtr == 12 && (t.lane .b).reservedPtr == 511
        && (t.queue 12).map PoolEntry.id == [2]) = true := by decide +kernel

/-! ### Reset and the link -/

theorem test_reset_end_samples_straps :
    after (.resetEnd 0x40) State.reset (fun t => t.base == some 0x40000000) = true
      ∧ after (.resetEnd 0xFF) up (fun t => t.base == some 0x40000000) = true := by decide +kernel

theorem test_power_on_reset :
    after .powerOnReset staged (fun t =>
      t.base == none && (t.entry 12).lifecycle == .absent && (t.queue 12).length == 0 && t.free.length == 4096) = true := by
  decide +kernel

theorem test_partial_write :
    after (.partialWrite (write 0 0x4044 (List.replicate 7 0))) up (fun t =>
      t.isLatched .partialWrite && t.down == [write 0 0x4044 (List.replicate 7 0)]) = true := by decide +kernel

theorem test_pass_through :
    after (.passThrough (write 0 0x80 (List.replicate 8 0))) up (fun t =>
      t.latched == 0 && t.down == [write 0 0x80 (List.replicate 8 0)]) = true := by decide +kernel

/-! ### Witnesses: a state and operands that meet the hypotheses of each statement -/

theorem test_witness_WindowBaseIsSampledAtResetEnd :
    State.reset.base = none ∧ up.base = some 0x40000000 ∧ Instr.timebaseTick ≠ .powerOnReset
      ∧ (∃ t, exec .timebaseTick up = .next t) ∧ requestOf (.post record40) = some record40 :=
  ⟨rfl, rfl, by decide, ⟨_, rfl⟩, rfl⟩

theorem test_witness_RegionMap :
    regionAt 0x1F = .globalControl ∧ regionAt 0x20 = .laneControl .a ∧ regionAt 0x3F = .laneControl .a
      ∧ regionAt 0x40 = .laneControl .b ∧ regionAt 0x5F = .laneControl .b ∧ regionAt 0x60 = .unnamed
      ∧ regionAt 0xFF = .unnamed ∧ regionAt 0x100 = .probeBlock ∧ regionAt 0x11F = .probeBlock
      ∧ regionAt 0x120 = .unnamed ∧ regionAt 0x1FFF = .unnamed ∧ regionAt 0x2000 = .postSlot 0
      ∧ regionAt 0x3FFF = .postSlot 511 ∧ regionAt 0x4000 = .stationRecord 0 ∧ regionAt 0x7FFF = .stationRecord 511
      ∧ regionAt 0x8000 = .ring .a 0 ∧ regionAt 0x83FF = .ring .a 63 ∧ regionAt 0x8400 = .ring .b 0
      ∧ regionAt 0x87FF = .ring .b 63 ∧ regionAt 0x8800 = .unnamed ∧ regionAt 0xFFFF = .unnamed
      ∧ windowOffset 0x40000000 0x4000FFFC = some 0xFFFC ∧ regionAt 0xFFFC = .unnamed := by decide +kernel

theorem test_witness_WholeWritesReachTheirOwner :
    let r := write 0 0x7FE0 (List.replicate 8 1)
    let p := write 0 0x3FF0 (List.replicate 4 6)
    let g := write 0 0 [0x80000201, 0, 0, 0, 0, 0, 0, 0]
    let a := write 0 0x20 (List.replicate 8 1)
    let b := write 0 0x100 [0x01FF0001, 0, 0, 0, 0, 0, 0, 0]
    up.base = some 0x40000000 ∧ radioOf up 0 = none
      ∧ (r.kind = .write ∧ r.addr.toNat = 0x40000000 + 0x7FE0 ∧ r.enables = List.replicate 8 0xF
          ∧ 0x7FE0 = 0x4000 + 32 * (511 : StationId).val)
      ∧ (p.addr.toNat = 0x40000000 + 0x3FF0 ∧ p.enables = List.replicate 4 0xF
          ∧ 0x3FF0 = 0x2000 + 16 * (511 : StationId).val)
      ∧ (g.addr.toNat = 0x40000000 + 0 ∧ g.enables = List.replicate 8 0xF)
      ∧ (a.addr.toNat = 0x40000000 + 0x20 ∧ a.enables = List.replicate 8 0xF)
      ∧ (b.addr.toNat = 0x40000000 + 0x100 ∧ b.enables = List.replicate 8 0xF ∧ bits (reqWord b 0) 3 0 = 1
          ∧ bits (reqWord b 0) 27 16 = (511 : StationId).val) := by decide +kernel

theorem test_witness_PartialWritesPass :
    classify up (write 0 0x2000 (List.replicate 8 0)) = .partialWrite
      ∧ (up.base = some 0x40000000 ∧ windowOffset 0x40000000 (write 0 0x87F0 [0, 0, 0, 0]).addr = some 0x87F0
          ∧ radioOf up 0 = none ∧ regionAt 0x87F0 = .ring .b 63) := by decide +kernel

theorem test_witness_RequestsPassThrough :
    classify up (read 0 0x2000) = .passThrough ∧ up.base = some 0x40000000
      ∧ (0x3FFFFFFC : Word).toNat < (0x40000000 : Word).toNat
      ∧ (0x40000000 : Word).toNat + 65535 < (0x40010000 : Word).toNat
      ∧ (read 1 0x83F0).addr.toNat = (0x40000000 : Word).toNat + 0x83F0 ∧ (read 1 0x83F0).source = up.radioA
      ∧ (read 2 0x87F0).addr.toNat = (0x40000000 : Word).toNat + 0x87F0 ∧ (read 2 0x87F0).source = up.radioB
      ∧ (2 : BitVec 4) ≠ up.radioA ∧ (0 : BitVec 4) ≠ up.radioA ∧ (0 : BitVec 4) ≠ up.radioB := by decide +kernel

/-- The pass cells of R146 at the edges of the regions, and their neighbours that do not pass. -/
theorem test_route_pass_cells :
    classify up (write 1 0 (List.replicate 8 0)) = .passThrough ∧ classify up (read 1 0x7FF0) = .passThrough
      ∧ classify up (read 1 0x8000) = .ringRead .a 0 true ∧ classify up (write 1 0x83F0 [0, 0, 0, 0]) = .completion .a 63 true
      ∧ classify up (write 1 0x8400 [0, 0, 0, 0]) = .passThrough ∧ classify up (read 2 0x83F0) = .passThrough
      ∧ classify up (read 0 0x8400) = .passThrough ∧ classify up (read 0 0x4000) = .passThrough
      ∧ classify up (write 0 0x5C [0]) = .partialWrite ∧ classify up (write 0 0x60 [0]) = .passThrough
      ∧ classify up (write 0 0xFC [0]) = .passThrough ∧ classify up (write 0 0x11C [0]) = .partialWrite
      ∧ classify up (write 0 0x120 [0]) = .passThrough ∧ classify up (write 0 0x1FFC [0]) = .passThrough
      ∧ classify up (write 0 0x7FFC [0]) = .partialWrite ∧ classify up (write 0 0x8000 [0, 0, 0, 0]) = .passThrough := by
  decide +kernel

/-- A record of a kind, a mode and a rate. -/
def rated (k : KindCode) (m : ModeCode) (rate : Nat) : StationRecord :=
  { kind := k, mode := m, lane := .a, weight := 1, depthLimit := 0, generation := 0, rate := rate, ceiling := 1 }

/-- The bounds of the cells of R3: 2..108, 13..1200 and 13..4800. -/
theorem test_witness_RateAndDepthClamps :
    (rated .legacy .unicastShared 1).shadow.rate = 2 ∧ (rated .veryHighThroughput .group 109).shadow.rate = 108
      ∧ (rated .highThroughput .unicastShared 12).shadow.rate = 13
      ∧ (rated .highThroughput .unicastReserved 1201).shadow.rate = 1200
      ∧ (rated .veryHighThroughput .unicastShared 4801).shadow.rate = 4800
      ∧ (rated .veryHighThroughput .unicastShared 4800).rateClamped = false
      ∧ (rated .veryHighThroughput .group 1).groupRate = true
      ∧ (rated .legacy .group 109).rateClamped = true := by decide +kernel

theorem test_witness_RecordActivatesAbsentStation :
    classify up record40 = .stationRecord 40 ∧ (up.entry 40).lifecycle = .absent
      ∧ (readStationRecord record40).kind ≠ .none ∧ (readStationRecord record40).mode ≠ .invalid := by decide +kernel

/-- A record of station 12: kind 3, mode 2, on lane B or, with bit 4 clear, on lane A. -/
def record12 (bit4 : Word) : Request := write 0 0x4180 [0x0920040B + bit4, 0x03E8030C, 0, 0, 0, 0, 0, 0]

theorem test_witness_RecordRewritesActiveStation :
    (classify issued (record12 16) = .stationRecord 12 ∧ (issued.entry 12).lifecycle = .active
      ∧ (readStationRecord (record12 16)).kind ≠ .none ∧ (readStationRecord (record12 16)).mode ≠ .invalid
      ∧ (readStationRecord (record12 16)).lane = (issued.entry 12).shadow.lane)
    ∧ (let s := withStation 12 (active .b .unicastShared) 0 [] up
      (readStationRecord (record12 0)).lane ≠ (s.entry 12).shadow.lane ∧ s.queue 12 = [] ∧ stagedFor s 12 = none
        ∧ issuedCount (s.lane (s.entry 12).shadow.lane) 12 = 0) := by decide +kernel

theorem test_witness_RecordRefusedInOrder :
    (classify leaving (record12 16) = .stationRecord 12 ∧ (leaving.entry 12).lifecycle = .retiring)
    ∧ (classify posted (write 0 0x4180 [4, 0, 0, 0, 0, 0, 0, 0]) = .stationRecord 12
        ∧ (posted.entry 12).lifecycle ≠ .retiring
        ∧ (readStationRecord (write 0 0x4180 [4, 0, 0, 0, 0, 0, 0, 0])).kind = .none
        ∧ (readStationRecord (write 0 0x4180 [13, 0, 0, 0, 0, 0, 0, 0])).mode = .invalid)
    ∧ (classify posted (record12 0) = .stationRecord 12 ∧ (posted.entry 12).lifecycle = .active
        ∧ (readStationRecord (record12 0)).kind ≠ .none ∧ (readStationRecord (record12 0)).mode ≠ .invalid
        ∧ (readStationRecord (record12 0)).lane ≠ (posted.entry 12).shadow.lane ∧ posted.queue 12 ≠ [])
    ∧ (classify leaving (write 0 0x4180 (List.replicate 8 0)) = .removal 12) := by decide +kernel

theorem test_witness_RemovalOfAbsentStation :
    classify up (write 0 0x4180 (List.replicate 8 0)) = .removal 12 ∧ (up.entry 12).lifecycle = .absent := by
  decide +kernel

theorem test_witness_RemovalOfActiveStation :
    (classify issued (write 0 0x4180 (List.replicate 8 0)) = .removal 12 ∧ (issued.entry 12).lifecycle = .active
      ∧ issuedCount (issued.lane (issued.entry 12).shadow.lane) 12 ≠ 0)
    ∧ (classify staged (write 0 0x4180 (List.replicate 8 0)) = .removal 12 ∧ (staged.entry 12).lifecycle = .active
      ∧ issuedCount (staged.lane (staged.entry 12).shadow.lane) 12 = 0) := by decide +kernel

/-- A post slot write of station 12. -/
def command12 (code length : Word) : Request := write 0 0x20C0 [code, 0x1000, length, 0]

/-- A short free stack. -/
def scarce (ids : List Nat) : State := { posted with free := ids, watermark := 1 }

theorem test_witness_PostAccepted :
    classify (scarce [7]) (command12 1 16383) = .post 12 ∧ ((scarce [7]).entry 12).lifecycle = .active
      ∧ bits (reqWord (command12 1 16383) 2) 13 0 ≠ 0
      ∧ ((scarce [7]).queue 12).length + (stagedFor (scarce [7]) 12).isSome.toNat < ((scarce [7]).entry 12).shadow.depthLimit
      ∧ (scarce [7]).free = 7 :: [] := by decide +kernel

theorem test_witness_PostRefusedInOrder :
    (classify up (command12 1 600) = .post 12 ∧ (up.entry 12).lifecycle = .absent)
    ∧ (classify leaving (command12 1 600) = .post 12 ∧ (leaving.entry 12).lifecycle = .retiring)
    ∧ (classify posted (command12 1 0) = .post 12 ∧ bits (reqWord (command12 1 0) 2) 13 0 = 0)
    ∧ (classify staged (command12 1 600) = .post 12 ∧ bits (reqWord (command12 1 600) 2) 13 0 ≠ 0
        ∧ (staged.entry 12).shadow.depthLimit = (staged.queue 12).length + (stagedFor staged 12).isSome.toNat)
    ∧ (classify (scarce []) (command12 1 600) = .post 12 ∧ (scarce []).free = []
        ∧ ((scarce []).queue 12).length + (stagedFor (scarce []) 12).isSome.toNat
          < ((scarce []).entry 12).shadow.depthLimit) := by decide +kernel

theorem test_witness_FlushFreesTheBacklog :
    classify staged (command12 2 0) = .flush 12 ∧ (staged.entry 12).lifecycle = .active
      ∧ (stagedFor staged 12).isSome = true := by decide +kernel

theorem test_witness_HoldAndDozeReturnTheStagedGrant :
    (staged.entry 12).lifecycle = .active ∧ classify staged (command12 3 0) = .hold 12
      ∧ classify staged (command12 5 0) = .doze 12 ∧ (staged.entry 12).shadow.mode ≠ .group
      ∧ (stagedFor staged 12).isSome = true := by decide +kernel

theorem test_witness_ReleaseAndWakeClearTheirFlag :
    (posted.entry 12).lifecycle = .active ∧ classify posted (command12 4 0) = .release 12
      ∧ classify posted (command12 6 0) = .wake 12 := by decide +kernel

theorem test_witness_QueueCommandsRefused :
    (classify up (command12 2 0) = .flush 12 ∧ classify up (command12 3 0) = .hold 12
      ∧ classify up (command12 4 0) = .release 12 ∧ classify up (command12 5 0) = .doze 12
      ∧ classify up (command12 6 0) = .wake 12 ∧ (up.entry 12).lifecycle = .absent)
    ∧ (classify leaving (command12 2 0) = .flush 12 ∧ (leaving.entry 12).lifecycle = .retiring)
    ∧ (let s := posted.setEntry 12 (active .b .group)
      classify s (command12 5 0) = .doze 12 ∧ (s.entry 12).lifecycle = .active ∧ (s.entry 12).shadow.mode = .group)
    ∧ classify up (command12 0 0) = .badCommand 12 ∧ classify up (command12 7 0) = .badCommand 12
    ∧ classify up (command12 15 0) = .badCommand 12 := by decide +kernel

theorem test_witness_EstimateOfAFrame : 1 ≤ 1 ∧ 1 ≤ 16383 ∧ 1 ≤ 2 ∧ 1 ≤ 4800 := by decide

/-- A lane record with its mode code, its other fields at the reset settings. -/
def laneRecord (mode : Nat) : LaneRecord :=
  { enable := true, start := 0, modeCode := mode, reserved := { preset := 1023, code := 15 },
    shared := { preset := 255, code := 3 }, refill := { preset := 249, code := 1 }, timeout := { preset := 0, code := 0 },
    quantum := 0, overhead := 8191 }

/-- Both conditions on a change of phase mode are met, and the settings of `laneRecord` are moved to their bounds. -/
theorem test_witness_LaneRecordSettings :
    Lane.reset.laneState = .off ∧ running.laneState ≠ .off ∧ (running.takeSettings (laneRecord 0)).mode = running.mode
      ∧ (running.takeSettings (laneRecord 3)).mode ≠ running.mode
      ∧ (running.takeSettings (laneRecord 1)).mode = .reservedOnly
      ∧ (({ running with mode := .sharedOnly, phase := .shared } : Lane).takeSettings (laneRecord 0)).sharedTimer
        = some 4096
      ∧ (running.takeSettings (laneRecord 0)).reservedSetting.period = 65536
      ∧ (running.takeSettings (laneRecord 0)).timeoutSetting.period = 2
      ∧ (running.takeSettings (laneRecord 0)).quantum = 1 ∧ (running.takeSettings (laneRecord 0)).overhead = 4095 := by
  decide +kernel

theorem test_witness_TickLowersRunningTimers :
    State.reset.base = none ∧ issued.base = some 0x40000000 ∧ NothingDue issued := by
  refine ⟨rfl, rfl, fun l => ?_⟩
  cases l <;> decide +kernel

theorem test_witness_EventsNotDueChangeNothing :
    (issued.lane .b).refillTimer ≠ some 0 ∧ ¬((issued.lane .b).sweeping = true ∧ (issued.lane .b).visitDue = true)
      ∧ (issued.lane .b).phaseTimer (issued.lane .b).phase ≠ some 0
      ∧ (∀ g ∈ (issued.lane .b).issued, g.slot = 9 → g.deadline ≠ issued.count)
      ∧ (up.lane .b).laneState ≠ .running ∧ (staged.lane .b).staged ≠ none := by decide +kernel

theorem test_witness_EventsNotDue_no_ready_station :
    (({ up with laneB := running } : State).lane .b).laneState = .running
      ∧ ∀ n, ¬Ready { up with laneB := running } .b n := by
  refine ⟨rfl, fun n h => ?_⟩
  have : (State.reset.entry n).lifecycle = .active := h.1
  simp [StationEntry.reset] at this

theorem test_witness_RefillExpiryOutcomes :
    let x := { running with refillTimer := some 0 }
    (x.refillTimer = some 0 ∧ x.sweeping = false) ∧ ({ x with sweeping := true } : Lane).owed = false
      ∧ ({ x with sweeping := true, owed := true } : Lane).owed = true := by decide +kernel

theorem test_witness_SweepVisitRefillsItsGroup :
    let x := { running with sweeping := true, visitDue := true }
    let y := { x with position := 31 }
    let s := posted.setLane .b x
    (s.lane .b).sweeping = true ∧ (s.lane .b).visitDue = true ∧ (s.lane .b).position.val < 31
      ∧ (s.entry 12).lifecycle = .active ∧ (s.entry 12).shadow.lane = .b ∧ 12 / 16 = (s.lane .b).position.val
      ∧ y.position = 31 ∧ y.owed = false ∧ ({ y with owed := true } : Lane).owed = true := by decide +kernel

theorem test_witness_PhaseExpiryChangesThePhase :
    let x := { running with reservedTimer := some 0 }
    let y := { running with phase := .shared, sharedTimer := some 0 }
    x.phase = .reserved ∧ x.reservedTimer = some 0 ∧ y.phase = .shared ∧ y.sharedTimer = some 0 := by decide +kernel

/-- With the station Active and, where the lane drains, with it Retiring and this its last grant. -/
theorem test_witness_GrantExpirySettlesTheCharge :
    ((issued.lane .b).issued.find? (fun h => h.slot == 9) = some (grant (frame 3 12) 9 7)
      ∧ (grant (frame 3 12) 9 7).deadline = ({ issued with count := 22800 } : State).count
      ∧ (issued.entry 12).lifecycle ≠ .retiring)
    ∧ ((leaving.lane .b).issued.find? (fun h => h.slot == 9) = some (grant (frame 3 12) 9 7)
      ∧ (leaving.entry 12).lifecycle = .retiring
      ∧ (leaving.lane .b).issued.eraseP (fun h => h.slot == 9) = []) := by decide +kernel

/-- The only station of `withStation` over `up` that can be ready is its own. -/
theorem ready_withStation {k n : StationId} {e : StationEntry} {c : Int} {q : List PoolEntry} {x : Lane} {l : LaneId}
    (h : Ready (withStation k e c q { up with laneB := x }) l n) : n = k := by
  have h1 := h.1
  by_contra hn
  simp only [withStation, setQueue_entry, setAccount_entry, setEntry_entry, if_neg hn] at h1
  have : (State.reset.entry n).lifecycle = .active := h1
  simp [StationEntry.reset] at this

theorem ready_posted : Ready posted .b 12 := by
  refine ⟨?_, ?_, ?_, ?_, ?_⟩ <;> decide +kernel

/-- The shared class is searched second while the lane is in its reserved phase, and station 12 is its one member. -/
theorem test_witness_StagingServesAClassWithCredit :
    (posted.lane .b).laneState = .running ∧ (posted.lane .b).staged = none
      ∧ (∀ m, ¬InSet posted .b (posted.lane .b).phase m) ∧ InSet posted .b .shared 12
      ∧ (∀ m, InSet posted .b .shared m →
          scanPlace ((posted.lane .b).pointer .shared) 12 ≤ scanPlace ((posted.lane .b).pointer .shared) m) := by
  refine ⟨by decide +kernel, by decide +kernel, fun m h => ?_, ⟨ready_posted, by decide +kernel, by decide +kernel⟩,
    fun m h => ?_⟩
  · have hm : m = 12 := ready_withStation h.1
    subst hm
    exact absurd h.2.1 (by decide +kernel)
  · have hm : m = 12 := ready_withStation h.1
    subst hm
    exact Nat.le_refl _

/-- As `posted`, in debt. -/
def indebted : State :=
  withStation 12 (active .b .unicastShared) (-200) [frame 1 12] { up with laneB := running }

theorem test_witness_StagingFallsBackToTheSmallestDebt :
    (indebted.lane .b).laneState = .running ∧ (indebted.lane .b).staged = none ∧ (∀ c m, ¬InSet indebted .b c m)
      ∧ Ready indebted .b 12
      ∧ (∀ m, Ready indebted .b m → (indebted.account m).credit < (indebted.account 12).credit
          ∨ ((indebted.account m).credit = (indebted.account 12).credit ∧ (12 : StationId) ≤ m)) := by
  refine ⟨by decide +kernel, by decide +kernel, fun c m h => ?_, ⟨?_, ?_, ?_, ?_, ?_⟩, fun m h => ?_⟩
  · have hm : m = 12 := ready_withStation h.1
    subst hm
    exact absurd h.2.2 (by decide +kernel)
  · decide +kernel
  · decide +kernel
  · decide +kernel
  · decide +kernel
  · decide +kernel
  · have hm : m = 12 := ready_withStation h
    subst hm
    exact .inr ⟨rfl, Nat.le_refl _⟩

theorem test_witness_GlobalRecordRefusedOnConflict :
    let r := write 0 0 [0x80000303, 0, 0, 0, 0, 0, 0, 0]
    classify up r = .globalControl ∧ bits (reqWord r 0) 3 0 = bits (reqWord r 0) 11 8 := by decide +kernel

theorem test_witness_GlobalRecordTaken :
    let r := write 0 0 [0x00000403, 4096, 0, 0, 0, 0, 0, 0]
    classify up r = .globalControl ∧ bits (reqWord r 0) 3 0 ≠ bits (reqWord r 0) 11 8
      ∧ 4095 < bits (reqWord r 1) 12 0 := by decide +kernel

theorem test_witness_SchedulerClearRestarts :
    classify leaving (write 0 0 [0x80000201, 4095, 0, 0, 0, 0, 0, 0]) = .schedulerClear
      ∧ (leaving.lane .b).laneState ≠ .off ∧ (leaving.lane .b).mode = .alternate ∧ (leaving.lane .a).laneState = .off := by
  decide +kernel

/-- A lane record write of lane B: enable or not, the other settings all 0. -/
def laneWrite (enable : Word) : Request := write 0 0x40 [enable, 0, 0, 0, 0, 0, 0, 0]

theorem test_witness_EnableStartsAnOffLane :
    classify up (laneWrite 1) = .laneEnable .b ∧ (up.lane .b).laneState = .off := by decide +kernel

theorem test_witness_EnableKeepsALaneInService :
    classify issued (laneWrite 1) = .laneEnable .b ∧ (issued.lane .b).laneState = .running
      ∧ classify draining (laneWrite 1) = .laneEnable .b ∧ (draining.lane .b).laneState = .draining := by decide +kernel

theorem test_witness_DisableDrainsALane :
    (classify up (laneWrite 0) = .laneDisable .b ∧ (up.lane .b).laneState = .off)
    ∧ (classify staged (laneWrite 0) = .laneDisable .b ∧ (staged.lane .b).laneState = .running
        ∧ (staged.lane .b).staged = some (frame 3 12) ∧ (staged.lane .b).issued = [])
    ∧ (classify issued (laneWrite 0) = .laneDisable .b ∧ (issued.lane .b).laneState = .running
        ∧ (issued.lane .b).staged = none ∧ (issued.lane .b).issued ≠ [])
    ∧ (classify draining (laneWrite 0) = .laneDisable .b ∧ (draining.lane .b).laneState = .draining
        ∧ (draining.lane .b).issued ≠ []) := by decide +kernel

/-- A probe write with its kind and its argument. -/
def probe (word0 : Word) : Request := write 0 0x100 [word0, 0, 0, 0, 0, 0, 0, 0]

theorem test_witness_probes :
    classify staged (probe 0x000C0001) = .stationProbe 12 ∧ classify up (probe 0x01FF0001) = .stationProbe 511
      ∧ classify issued (probe 0x00010002) = .laneProbe .b ∧ classify up (probe 2) = .laneProbe .a
      ∧ classify up (probe 3) = .poolProbe ∧ classify up (probe 4) = .attentionProbe := by decide +kernel

/-- Every ground of R160 at its boundary. -/
theorem test_witness_BadProbeRefused :
    up.base = some 0x40000000 ∧ radioOf up 0 = none ∧ (probe 5).kind = .write
      ∧ (probe 5).enables = List.replicate 8 0xF ∧ (probe 5).addr.toNat = (0x40000000 : Word).toNat + 0x100
      ∧ classify up (probe 0) = .badProbe ∧ classify up (probe 5) = .badProbe
      ∧ classify up (probe 0x02000001) = .badProbe ∧ classify up (probe 0x00020002) = .badProbe := by decide +kernel

theorem test_witness_RingReadIssuesTheStagedGrant :
    let e : PoolEntry := { id := 5, addr := 0x5000, len := 1500, owner := 17 }
    let s := issuing
    let low := s.setAccount 17 { Account.reset with credit := -8388600 }
    classify s (read 1 0x80A0) = .ringRead .a (s.lane .a).expected true ∧ (s.lane .a).laneState = .running
      ∧ (s.lane .a).staged = some e ∧ (s.lane .a).issued.length < 4
      ∧ (∀ g ∈ (s.lane .a).issued, g.slot ≠ (s.lane .a).expected + 60)
      ∧ -8388608 < (s.account 17).credit - (estimateOf 1500 130 176 : Nat)
      ∧ (low.account 17).credit - (estimateOf 1500 130 176 : Nat) ≤ -8388608 := by decide +kernel

/-- A lane whose four grants lie at slots 6 to 9. -/
def full : Lane :=
  { running with
    nextSeq := 4,
    staged := some (frame 8 12),
    issued := [grant (frame 4 12) 6 0, grant (frame 5 12) 7 1, grant (frame 6 12) 8 2, grant (frame 7 12) 9 3] }

theorem test_witness_RingReadAnsweredAgainOrEmpty :
    let s := posted.setLane .b full
    let g := grant (frame 4 12) 6 0
    let t := posted.setLane .b { full with issued := [g] }
    (classify posted (read 2 0x84A0) = .ringRead .b 10 true ∧ (posted.lane .b).laneState = .running
        ∧ (posted.lane .b).expected = 10 ∧ (posted.lane .b).staged = none)
    ∧ (classify s (read 2 0x84A0) = .ringRead .b 10 true ∧ 4 ≤ (s.lane .b).issued.length)
    ∧ (t.lane .b).issued.length = 1 ∧ (∃ g ∈ (t.lane .b).issued, g.slot = (t.lane .b).expected + 60)
    ∧ (classify s (read 2 0x8500) = .ringRead .b 16 true ∧ ∀ g ∈ (s.lane .b).issued, g.slot ≠ 16)
    ∧ (classify s (read 2 0x8460) = .ringRead .b 6 true
        ∧ (s.lane .b).issued.find? (fun h => h.slot == 6) = some g)
    ∧ (classify draining (read 2 0x8490) = .ringRead .b 9 true ∧ (draining.lane .b).laneState = .draining
        ∧ (draining.lane .b).issued.find? (fun h => h.slot == 9) = some (grant (frame 3 12) 9 7))
    ∧ (classify draining (read 2 0x84A0) = .ringRead .b 10 true
        ∧ ∀ g ∈ (draining.lane .b).issued, g.slot ≠ 10) := by decide +kernel

theorem test_witness_RingReadPassesToMemory :
    (classify up (read 2 0x84A0) = .ringRead .b 10 true ∧ (up.lane .b).laneState = .off)
    ∧ (classify issued (read 2 0x84A8) = .ringRead .b 10 false ∧ (issued.lane .b).laneState ≠ .off) := by decide +kernel

theorem test_witness_ResponsesReturnWithMemorysStatus :
    (up.send (read 1 0x80A0) (some [1, 2, 3, 4])).outstanding[0]?
        = some { req := read 1 0x80A0, answer := some [1, 2, 3, 4] }
      ∧ up.outstanding.length ≤ 0 := by decide +kernel

/-- A completion of lane B's slot 9 by Radio B. -/
def completion9 (outcome addr airtime : Word) : Request := write 2 0x8490 [outcome, addr, airtime, 0]

/-- Each outcome; a sum below the floor; the end of a Retiring station and of a Draining lane. -/
theorem test_witness_MatchedCompletionCorrectsTheCharge :
    (classify issued (completion9 0 0x3000 250) = .completion .b 9 true ∧ (issued.lane .b).laneState ≠ .off
      ∧ bits (reqWord (completion9 0 0x3000 250) 0) 31 31 = 0 ∧ bits (reqWord (completion9 0 0x3000 250) 0) 1 0 = 0
      ∧ bits (reqWord (completion9 1 0x3000 250) 0) 1 0 = 1 ∧ bits (reqWord (completion9 2 0x3000 250) 0) 1 0 = 2
      ∧ (issued.lane .b).issued.find? (fun h => h.slot == 9) = some (grant (frame 3 12) 9 7)
      ∧ reqWord (completion9 0 0x3000 250) 1 = (grant (frame 3 12) 9 7).entry.addr
      ∧ (issued.entry 12).lifecycle ≠ .retiring)
    ∧ (leaving.entry 12).lifecycle = .retiring
    ∧ (leaving.lane .b).issued.eraseP (fun h => h.slot == 9) = []
    ∧ (-8300000 : Int) + 915 - 4 * bits (reqWord (completion9 0 0x3000 0xFFFF) 2) 15 0 ≤ -8388608 := by decide +kernel

theorem test_witness_LateAndUnmatchedCompletions :
    (classify issued (write 2 0x8480 [0, 0x9000, 1, 0]) = .completion .b 8 true ∧ (issued.lane .b).laneState ≠ .off
      ∧ bits (reqWord (write 2 0x8480 [0, 0x9000, 1, 0]) 0) 1 0 ≠ 3 ∧ (∀ g ∈ (issued.lane .b).issued, g.slot ≠ 8)
      ∧ (issued.lane .b).expired[8] = some { addr := 0x9000, station := 12 }
      ∧ reqWord (write 2 0x8480 [0, 0x9000, 1, 0]) 1 = 0x9000)
    ∧ reqWord (write 2 0x8480 [0, 0x9004, 1, 0]) 1 ≠ 0x9000
    ∧ ((∀ g ∈ (issued.lane .b).issued, g.slot ≠ 10) ∧ (issued.lane .b).expired[10] = none)
    ∧ ((issued.lane .b).issued.find? (fun h => h.slot == 9) = some (grant (frame 3 12) 9 7)
      ∧ reqWord (completion9 0 0x9000 1) 1 ≠ (grant (frame 3 12) 9 7).entry.addr) := by decide +kernel

theorem test_witness_FramingFaultsAndOffLanes :
    (classify up (completion9 0 0 0) = .completion .b 9 true ∧ (up.lane .b).laneState = .off)
    ∧ (classify issued (write 2 0x8494 [0, 0, 0]) = .completion .b 9 false ∧ (issued.lane .b).laneState ≠ .off)
    ∧ (classify issued (completion9 0x80000000 0 0) = .completion .b 9 true
      ∧ bits (reqWord (completion9 0x80000000 0 0) 0) 31 31 = 1 ∧ bits (reqWord (completion9 3 0 0) 0) 1 0 = 3) := by
  decide +kernel

theorem test_witness_LatchedCausesStay :
    ({ up with latched := 0x400 } : State).latched.getLsbD Cause.grantExpired.bit = true
      ∧ classify { up with latched := 0x400 } (probe 3) ≠ .attentionProbe
      ∧ ∃ t, exec (.poolProbe (probe 3)) { up with latched := 0x400 } = .next t :=
  ⟨by decide +kernel, by decide +kernel, ⟨_, exec_poolProbe _ _⟩⟩

theorem test_witness_EnablesDecideNothingElse :
    SameButEnables issued { issued with enabled := 0x7FF } ∧ SameButEnableSet issued { issued with enabled := 0x7FF }
      ∧ classify issued (completion9 0 0x3000 250) ≠ .attentionProbe
      ∧ (∃ t, exec (.completion (completion9 0 0x3000 250)) issued = .next t)
      ∧ (∃ t, exec (.completion (completion9 0 0x3000 250)) { issued with enabled := 0x7FF } = .next t) :=
  ⟨rfl, rfl, by decide +kernel, ⟨_, exec_completion _ _⟩, ⟨_, exec_completion _ _⟩⟩

/-! ### Witnesses of the invariants -/

/-- As `issued`, with the entries in use taken off the free stack and a command waiting. -/
def inUse (c : Instr) : State :=
  { issued with free := 0 :: List.range' 4 4092, leastFree := 4093, pending := [c] }

theorem queuedIds_eq (s : State) : queuedIds s = s.queues.toList.flatMap (List.map PoolEntry.id) := by
  have : (List.finRange 512).map (fun n => s.queue n) = s.queues.toList := by
    apply List.ext_getElem <;> simp [State.queue]
  rw [← this, List.flatMap_map]
  rfl

theorem inUse_queuedIds (c : Instr) : queuedIds (inUse c) = [1, 2] := by
  have h : (inUse c).queues = issued.queues := rfl
  rw [queuedIds_eq, h]
  decide +kernel

theorem resetFree_split : resetFree = 0 :: 1 :: 2 :: 3 :: List.range' 4 4092 := by
  unfold resetFree
  rw [List.range_eq_range']
  rfl

theorem test_witness_EveryStepConservesThePool :
    PoolConserved (inUse .timebaseTick) ∧ LeastFreeBelow (inUse .timebaseTick)
      ∧ ∃ t, step (inUse .timebaseTick) = .next t := by
  refine ⟨?_, ?_, ⟨_, rfl⟩⟩
  · have ha : laneIds (inUse .timebaseTick).laneA = [] := by decide +kernel
    have hb : laneIds (inUse .timebaseTick).laneB = [3] := by decide +kernel
    unfold PoolConserved
    rw [inUse_queuedIds, ha, hb, resetFree_split, List.append_nil, List.append_assoc]
    show (0 :: (List.range' 4 4092 ++ [1, 2, 3])).Perm _
    exact (List.perm_append_comm (l₁ := List.range' 4 4092) (l₂ := [1, 2, 3])).cons 0
  · show 4093 ≤ (0 :: List.range' 4 4092).length
    simp

/-- The credits are within bounds with one at the floor and one at its ceiling. -/
theorem test_witness_EveryStepBoundsTheCredits :
    CreditsBounded (withStation 13 (active .a .group) 4000 []
        (withStation 12 (active .b .unicastShared) (-8388608) [] { up with pending := [.sweepVisit .b] }))
      ∧ ∃ t, step (withStation 13 (active .a .group) 4000 []
        (withStation 12 (active .b .unicastShared) (-8388608) [] { up with pending := [.sweepVisit .b] })) = .next t := by
  refine ⟨fun n => ?_, ⟨_, rfl⟩⟩
  have h0 : ∀ m, (up.account m).credit = 0 ∧ ceilingAU (up.entry m).shadow = 0 := fun m => by
    have h1 : up.account m = Account.reset := reset_account m
    have h2 : up.entry m = StationEntry.reset := reset_entry m
    rw [h1, h2]; decide
  by_cases h13 : n = 13
  · subst h13; decide +kernel
  · by_cases h12 : n = 12
    · subst h12; decide +kernel
    · simp only [withStation, setQueue_account, setQueue_entry, setAccount_entry, setAccount_account, setEntry_account,
        setEntry_entry, if_neg h13, if_neg h12]
      have := h0 n
      have e1 : ({ up with pending := [.sweepVisit .b] } : State).account n = up.account n := rfl
      have e2 : ({ up with pending := [.sweepVisit .b] } : State).entry n = up.entry n := rfl
      rw [e1, e2, this.1, this.2]; decide

/-- Four grants are issued, at the four slots before the expected one. -/
theorem test_witness_EveryStepKeepsTheIssuedWindow :
    IssuedInWindow ((inUse .timebaseTick).setLane .b full)
      ∧ ∃ t, step ((inUse .timebaseTick).setLane .b full) = .next t := by
  have hoff : Lane.reset.issuedInWindow := by
    refine ⟨by decide, by decide, ?_, fun _ => rfl⟩
    intro g hg; cases hg
  refine ⟨fun l => ?_, ⟨_, rfl⟩⟩
  cases l
  · exact hoff
  · refine ⟨by decide +kernel, by decide +kernel, ?_, by decide +kernel⟩
    intro g hg
    have hl : g = grant (frame 4 12) 6 0 ∨ g = grant (frame 5 12) 7 1 ∨ g = grant (frame 6 12) 8 2
        ∨ g = grant (frame 7 12) 9 3 := by simpa [setLane_lane, full] using hg
    rcases hl with rfl | rfl | rfl | rfl
    · exact ⟨by decide, 4, by decide, by decide, by decide +kernel, by decide +kernel⟩
    · exact ⟨by decide, 3, by decide, by decide, by decide +kernel, by decide +kernel⟩
    · exact ⟨by decide, 2, by decide, by decide, by decide +kernel, by decide +kernel⟩
    · exact ⟨by decide, 1, by decide, by decide, by decide +kernel, by decide +kernel⟩

theorem test_witness_EveryStepKeepsLanesAtRest :
    LanesRestByState (inUse (.phaseExpiry .b)) ∧ ∃ t, step (inUse (.phaseExpiry .b)) = .next t := by
  refine ⟨fun l => ?_, ⟨_, rfl⟩⟩
  cases l
  · exact ⟨fun _ => by decide +kernel, fun h => absurd rfl h, fun _ => rfl, fun _ => by decide +kernel⟩
  · refine ⟨fun h => ?_, fun _ => ⟨by decide +kernel, ?_⟩, fun _ => by decide +kernel, fun _ => by decide +kernel⟩
    · exact absurd h (by decide +kernel)
    · show (some 4096).isSome = true ∧ none = none
      exact ⟨rfl, rfl⟩

/-- Station 12 holds two queued frames and one issued grant of 915 AU. -/
theorem test_witness_EveryStepKeepsStationsSound :
    StationsSound (inUse (.stagingDecision .b)) ∧ ∃ t, step (inUse (.stagingDecision .b)) = .next t := by
  have hst : ∀ n, n ≠ 12 → (inUse (.stagingDecision .b)).entry n = StationEntry.reset
      ∧ (inUse (.stagingDecision .b)).account n = Account.reset ∧ (inUse (.stagingDecision .b)).queue n = [] := by
    intro n hn
    have e : (inUse (.stagingDecision .b)).table = issued.table := rfl
    have a : (inUse (.stagingDecision .b)).accounts = issued.accounts := rfl
    have q : (inUse (.stagingDecision .b)).queues = issued.queues := rfl
    unfold State.entry State.account State.queue
    rw [e, a, q]
    show issued.entry n = _ ∧ issued.account n = _ ∧ issued.queue n = _
    simp only [issued, posted, withStation, setAccount_entry, setAccount_account, setAccount_queue, setLane_entry,
      setLane_account, setLane_queue, setQueue_entry, setQueue_account, setEntry_entry, setEntry_account,
      setQueue_queue, setEntry_queue, if_neg hn]
    exact ⟨reset_entry n, reset_account n, reset_queue n⟩
  have hl : ∀ l g, g ∈ ((inUse (.stagingDecision .b)).lane l).issued → l = .b ∧ g = grant (frame 3 12) 9 7 := by
    intro l g hg
    cases l
    · cases hg
    · exact ⟨rfl, List.mem_singleton.1 hg⟩
  refine ⟨⟨fun n => ?_, ?_, ?_⟩, ⟨_, rfl⟩⟩
  · by_cases hn : n = 12
    · subst hn
      refine ⟨?_, ?_, ?_, ?_, ?_, ?_, ?_, ?_⟩
      · decide +kernel
      · decide +kernel
      · decide +kernel
      · decide +kernel
      · unfold Shadow.accepted; decide +kernel
      · decide +kernel
      · decide +kernel
      · decide +kernel
    · obtain ⟨he, ha, hq⟩ := hst n hn
      refine ⟨?_, ?_, ?_, ?_, ?_, ?_, ?_, ?_⟩
      · rw [he, hq]; intro _; exact ⟨rfl, rfl, rfl⟩
      · rw [ha]; intro _; rfl
      · rw [he]; intro h; cases h
      · rw [he]; intro h; cases h
      · rw [he]; intro h; exact absurd rfl h
      · rw [hq]; intro e h; cases h
      · have : stagedFor (inUse (.stagingDecision .b)) n = none := by unfold stagedFor; rw [he]; rfl
        rw [hq, this]; decide
      · rw [ha]
        have h1 : estimateSum (inUse (.stagingDecision .b)).laneA.issued n = 0 := rfl
        have h2 : estimateSum (inUse (.stagingDecision .b)).laneB.issued n = 0 := by
          show estimateSum [grant (frame 3 12) 9 7] n = 0
          have : ((grant (frame 3 12) 9 7).entry.owner == n) = false := beq_eq_false_iff_ne.2 (Ne.symm hn)
          simp only [estimateSum, List.filter_cons, List.filter_nil, this]
          rfl
        rw [h1, h2]; rfl
  · intro l e h
    cases l <;> cases h
  · intro l g hg
    obtain ⟨rfl, rfl⟩ := hl l g hg
    decide +kernel

theorem test_witness_EveryStepKeepsSettingsInRange :
    SettingsInRange (inUse (.laneEnable (laneWrite 1))) ∧ SourcesDiffer (inUse (.laneEnable (laneWrite 1)))
      ∧ ∃ t, step (inUse (.laneEnable (laneWrite 1))) = .next t := by
  refine ⟨⟨fun l => ?_, by decide +kernel⟩, ?_, ⟨_, exec_laneEnable (laneWrite 1) { inUse (.laneEnable (laneWrite 1)) with pending := [] }⟩⟩
  · cases l <;> unfold Lane.settingsInRange TimerSetting.inRange <;> decide +kernel
  · unfold SourcesDiffer; decide +kernel

end Sys2Proof.Tests
end

section
/-! PROOFS. Station records: acceptance (R8 to R14) and removal (R15, R16, R18), with the frame laws that every
command of a station rests on. -/

namespace Sys2Proof.Machine

open Sys2Proof

/-! ### Frames

Which updates a frame does not see: each law says that the frame holds after the update exactly where it held before. -/

section Frames

variable (s t : State) (r : Request) (n : StationId)

@[simp] theorem LinkKept.refl : LinkKept s s := ⟨rfl, rfl, rfl⟩
@[simp] theorem ControlKept.refl : ControlKept s s := ⟨rfl, rfl, rfl, rfl, rfl, rfl, rfl⟩
@[simp] theorem LanesKept.refl : LanesKept s s := ⟨rfl, rfl⟩
@[simp] theorem PoolKept.refl : PoolKept s s := ⟨rfl, rfl⟩
@[simp] theorem OthersKept.refl : OthersKept n s s := fun _ _ => ⟨rfl, rfl, rfl⟩
@[simp] theorem StationsKept.refl : StationsKept s s := fun _ => ⟨rfl, rfl, rfl⟩

@[simp] theorem PartKept.refl : PartKept s s := ⟨.refl s, .refl s, .refl s, .refl s⟩

/-- Sending a request on is the only traffic where the link was kept until then (R139). -/
theorem passed_forward {s t : State} (h : LinkKept s t) : Passed r s (t.forward r) := by
  obtain ⟨hdown, houtstanding, hup⟩ := h
  exact ⟨by simp [hdown], by simp [houtstanding], by simp [hup]⟩

@[simp] theorem controlKept_forward : ControlKept s (t.forward r) ↔ ControlKept s t := Iff.rfl
@[simp] theorem lanesKept_forward : LanesKept s (t.forward r) ↔ LanesKept s t := Iff.rfl
@[simp] theorem poolKept_forward : PoolKept s (t.forward r) ↔ PoolKept s t := Iff.rfl
@[simp] theorem othersKept_forward : OthersKept n s (t.forward r) ↔ OthersKept n s t := Iff.rfl
@[simp] theorem partKept_forward : PartKept s (t.forward r) ↔ PartKept s t := Iff.rfl

@[simp] theorem linkKept_setEntry (x : StationEntry) : LinkKept s (t.setEntry n x) ↔ LinkKept s t := Iff.rfl
@[simp] theorem controlKept_setEntry (x : StationEntry) : ControlKept s (t.setEntry n x) ↔ ControlKept s t := Iff.rfl
@[simp] theorem lanesKept_setEntry (x : StationEntry) : LanesKept s (t.setEntry n x) ↔ LanesKept s t := Iff.rfl
@[simp] theorem poolKept_setEntry (x : StationEntry) : PoolKept s (t.setEntry n x) ↔ PoolKept s t := Iff.rfl

@[simp] theorem othersKept_setEntry (x : StationEntry) : OthersKept n s (t.setEntry n x) ↔ OthersKept n s t :=
  forall₂_congr fun m hm => by rw [setEntry_entry_other t hm, setEntry_account, setEntry_queue]

@[simp] theorem linkKept_setAccount (x : Account) : LinkKept s (t.setAccount n x) ↔ LinkKept s t := Iff.rfl
@[simp] theorem controlKept_setAccount (x : Account) : ControlKept s (t.setAccount n x) ↔ ControlKept s t := Iff.rfl
@[simp] theorem lanesKept_setAccount (x : Account) : LanesKept s (t.setAccount n x) ↔ LanesKept s t := Iff.rfl
@[simp] theorem poolKept_setAccount (x : Account) : PoolKept s (t.setAccount n x) ↔ PoolKept s t := Iff.rfl

@[simp] theorem othersKept_setAccount (x : Account) : OthersKept n s (t.setAccount n x) ↔ OthersKept n s t :=
  forall₂_congr fun m hm => by rw [setAccount_account_other t hm, setAccount_entry, setAccount_queue]

@[simp] theorem linkKept_setQueue (x : List PoolEntry) : LinkKept s (t.setQueue n x) ↔ LinkKept s t := Iff.rfl
@[simp] theorem controlKept_setQueue (x : List PoolEntry) : ControlKept s (t.setQueue n x) ↔ ControlKept s t := Iff.rfl

@[simp] theorem othersKept_setQueue (x : List PoolEntry) : OthersKept n s (t.setQueue n x) ↔ OthersKept n s t :=
  forall₂_congr fun m hm => by rw [setQueue_queue_other t hm, setQueue_entry, setQueue_account]

@[simp] theorem linkKept_setFree (x : List Nat) : LinkKept s (t.setFree x) ↔ LinkKept s t := Iff.rfl
@[simp] theorem controlKept_setFree (x : List Nat) : ControlKept s (t.setFree x) ↔ ControlKept s t := Iff.rfl
@[simp] theorem othersKept_setFree (x : List Nat) : OthersKept n s (t.setFree x) ↔ OthersKept n s t := Iff.rfl

@[simp] theorem linkKept_setLane (l : LaneId) (x : Lane) : LinkKept s (t.setLane l x) ↔ LinkKept s t := by
  simp [LinkKept]
@[simp] theorem controlKept_setLane (l : LaneId) (x : Lane) : ControlKept s (t.setLane l x) ↔ ControlKept s t := by
  simp [ControlKept]
@[simp] theorem othersKept_setLane (l : LaneId) (x : Lane) : OthersKept n s (t.setLane l x) ↔ OthersKept n s t := by
  simp [OthersKept]

end Frames

/-! ### Writes to one station, one after another -/

theorem setEntry_setEntry (s : State) (n : StationId) (x y : StationEntry) :
    (s.setEntry n x).setEntry n y = s.setEntry n y := by
  simp [State.setEntry, Vector.set_set]

theorem setAccount_account_eq (s : State) (n : StationId) : s.setAccount n (s.account n) = s := by
  simp [State.setAccount, State.account]

/-! ### The backlog freed, field by field -/

section FreeBacklog

variable (s : State) (n m : StationId)

theorem freeBacklog_free : (freeBacklog n s).free =
    ((stagedFor s n).toList.map PoolEntry.id ++ (s.queue n).map PoolEntry.id).reverse ++ s.free := by
  obtain ⟨e, hs, h⟩ | ⟨hs, h⟩ := freeBacklog_cases s n <;> simp [h, hs]

@[simp] theorem freeBacklog_queue_self : (freeBacklog n s).queue n = [] := by
  obtain ⟨e, -, h⟩ | ⟨-, h⟩ := freeBacklog_cases s n <;> simp [h]

theorem freeBacklog_lane (l : LaneId) : (freeBacklog n s).lane l =
    if l = (s.entry n).shadow.lane ∧ (stagedFor s n).isSome = true then { s.lane l with staged := none }
    else s.lane l := by
  obtain ⟨e, hs, h⟩ | ⟨hs, h⟩ := freeBacklog_cases s n
  · simp only [h, hs, clearStaged, setQueue_lane, setFree_lane, setLane_lane, Option.isSome_some, and_true]
    split
    · next hl => rw [hl]
    · rfl
  · simp [h, hs]

@[simp] theorem freeBacklog_issued (l : LaneId) : ((freeBacklog n s).lane l).issued = (s.lane l).issued := by
  rw [freeBacklog_lane]; split <;> rfl

@[simp] theorem freeBacklog_leastFree : (freeBacklog n s).leastFree = s.leastFree := by
  obtain ⟨e, -, h⟩ | ⟨-, h⟩ := freeBacklog_cases s n <;> simp [h, clearStaged]

@[simp] theorem freeBacklog_latched : (freeBacklog n s).latched = s.latched := by
  obtain ⟨e, -, h⟩ | ⟨-, h⟩ := freeBacklog_cases s n <;> simp [h, clearStaged]

@[simp] theorem freeBacklog_entry : (freeBacklog n s).entry m = s.entry m := by
  obtain ⟨e, -, h⟩ | ⟨-, h⟩ := freeBacklog_cases s n <;> simp [h, clearStaged]

@[simp] theorem freeBacklog_account : (freeBacklog n s).account m = s.account m := by
  obtain ⟨e, -, h⟩ | ⟨-, h⟩ := freeBacklog_cases s n <;> simp [h, clearStaged]

theorem freeBacklog_linkKept : LinkKept s (freeBacklog n s) := by
  obtain ⟨e, -, h⟩ | ⟨-, h⟩ := freeBacklog_cases s n <;> simp [h, clearStaged]

theorem freeBacklog_controlKept : ControlKept s (freeBacklog n s) := by
  obtain ⟨e, -, h⟩ | ⟨-, h⟩ := freeBacklog_cases s n <;> simp [h, clearStaged]

theorem freeBacklog_othersKept : OthersKept n s (freeBacklog n s) := by
  obtain ⟨e, -, h⟩ | ⟨-, h⟩ := freeBacklog_cases s n <;> simp [h, clearStaged]

end FreeBacklog

/-! ### Station record writes and removals -/

section Stations

variable (s : State) (r : Request) (n : StationId)

theorem answerStation_eq_forward (w : Word) : answerStation r w s = s.forward (withWord r 7 w) := rfl

/-- A cell with a kind and a valid mode is no refused cell of the kind/mode table (R3). -/
theorem isRefusedCell_eq_false {k : KindCode} {m : ModeCode} (hk : k ≠ .none) (hm : m ≠ .invalid) :
    isRefusedCell k m = false := by
  simp [isRefusedCell, hk, hm]

theorem hasBacklog_eq_false_iff : hasBacklog s n = false ↔
    s.queue n = [] ∧ stagedFor s n = none ∧ issuedCount (s.lane (s.entry n).shadow.lane) n = 0 := by
  simp [hasBacklog, and_assoc]

/-- An Absent entry takes every record of an accepting cell (R2, R8). -/
theorem takeStationRecord_of_absent (habsent : (s.entry n).lifecycle = .absent)
    (hk : (readStationRecord r).kind ≠ .none) (hm : (readStationRecord r).mode ≠ .invalid) :
    takeStationRecord n r s =
      answerStation r (stationAccepted (readStationRecord r)) (activateStation n (readStationRecord r).shadow s) := by
  simp [takeStationRecord, habsent, isRefusedCell_eq_false hk hm]

/-- An Active entry takes a record of an accepting cell that keeps its lane, or changes it with no backlog (R2, R11). -/
theorem takeStationRecord_of_active (hactive : (s.entry n).lifecycle = .active)
    (hk : (readStationRecord r).kind ≠ .none) (hm : (readStationRecord r).mode ≠ .invalid)
    (hlane : (readStationRecord r).lane = (s.entry n).shadow.lane ∨ hasBacklog s n = false) :
    takeStationRecord n r s =
      answerStation r (stationAccepted (readStationRecord r)) (rewriteStation n (readStationRecord r).shadow s) := by
  have hnotBusy : ¬((readStationRecord r).lane ≠ (s.entry n).shadow.lane ∧ hasBacklog s n = true) := by
    rintro ⟨hne, hb⟩
    exact hlane.elim hne (by simp [hb])
  simp only [takeStationRecord, hactive, isRefusedCell_eq_false hk hm, if_neg hnotBusy, Bool.false_eq_true, if_false]

theorem takeRemoval_of_absent (habsent : (s.entry n).lifecycle = .absent) :
    takeRemoval n r s = answerStation r (stationPlain .accepted (readStationRecord r)) s := by
  simp [takeRemoval, habsent]

theorem takeRemoval_of_active (hactive : (s.entry n).lifecycle = .active) :
    takeRemoval n r s = answerStation r (stationPlain .accepted (readStationRecord r)) (retireStation n s) := by
  simp [takeRemoval, hactive]

/-- What a retirement does: the backlog is freed and the station written once; with no grant issued it is Absent at once
and its account closed, else it is Retiring and keeps its account (R15, R18). -/
theorem retireStation_cases : ∃ x a, retireStation n s = ((freeBacklog n s).setEntry n x).setAccount n a
    ∧ (issuedCount (s.lane (s.entry n).shadow.lane) n = 0 →
        x = { s.entry n with lifecycle := .absent, held := false, dozing := false }
        ∧ a = { s.account n with credit := 0, floorReached := false })
    ∧ (issuedCount (s.lane (s.entry n).shadow.lane) n ≠ 0 →
        x = { s.entry n with lifecycle := .retiring, held := false, dozing := false } ∧ a = s.account n) := by
  have hfreed : issuedCount ((freeBacklog n s).lane (s.entry n).shadow.lane) n
      = issuedCount (s.lane (s.entry n).shadow.lane) n := by simp [issuedCount]
  by_cases hissued : issuedCount (s.lane (s.entry n).shadow.lane) n = 0
  · refine ⟨_, _, ?_, fun _ => ⟨rfl, rfl⟩, fun h => absurd hissued h⟩
    simp [retireStation, retireIfLast, hfreed, hissued, becomeAbsent, setEntry_setEntry, Account.close]
  · refine ⟨_, _, ?_, fun h => absurd h hissued, fun _ => ⟨rfl, rfl⟩⟩
    have hkept := setAccount_account_eq
      ((freeBacklog n s).setEntry n { s.entry n with lifecycle := .retiring, held := false, dozing := false }) n
    simpa [retireStation, retireIfLast, hfreed, hissued] using hkept.symm

/-- A write of one station's entry and account, answered with a result word, changes nothing else of the part. -/
theorem answerStation_setEntry_setAccount_frame (w : Word) (x : StationEntry) (a : Account) (t : State)
    (ht : t = answerStation r w ((s.setEntry n x).setAccount n a)) :
    t.queue n = s.queue n ∧ Passed (withWord r 7 w) s t ∧ OthersKept n s t ∧ LanesKept s t ∧ PoolKept s t
      ∧ ControlKept s t ∧ t.latched = s.latched := by
  rw [ht, answerStation_eq_forward]
  refine ⟨?queue, passed_forward _ ?link, ?others, ?lanes, ?pool, ?control, ?latched⟩
  all_goals simp

end Stations

/-! ### The statements -/

/-- Settles O11: the accepting branch of the interrogation for an Absent entry, and the fields of an activation. -/
theorem recordActivatesAbsentStation : Obligations.RecordActivatesAbsentStation := by
  intro r n s hrow habsent hk hm
  refine ⟨takeRequest r s, exec_stationRecordWrite r s, ?_⟩
  rw [takeRequest_stationRecord r s n hrow, takeStationRecord_of_absent s r n habsent hk hm]
  refine ⟨?entry, ?account, answerStation_setEntry_setAccount_frame s r n _ _ _ _ rfl⟩
  all_goals simp [activateStation, answerStation_eq_forward]

/-- Settles O12: the accepting branch of the interrogation for an Active entry, and the fields of a rewrite. -/
theorem recordRewritesActiveStation : Obligations.RecordRewritesActiveStation := by
  intro r n s hrow hactive hk hm hlane
  rw [← hasBacklog_eq_false_iff] at hlane
  refine ⟨takeRequest r s, exec_stationRecordWrite r s, ?_⟩
  rw [takeRequest_stationRecord r s n hrow, takeStationRecord_of_active s r n hactive hk hm hlane]
  refine ⟨?entry, ?account, answerStation_setEntry_setAccount_frame s r n _ _ _ _ rfl⟩
  case entry =>
    by_cases hgroup : (readStationRecord r).mode = .group <;>
      simp [rewriteStation, answerStation_eq_forward, StationRecord.shadow, hactive, hgroup]
  case account =>
    simp [rewriteStation, answerStation_eq_forward, Account.clampTo, ceilingAU, Config.auPerMicrosecond,
      StationRecord.shadow]

/-- Settles O14: the accepting branch of a removal for an Absent entry touches nothing but the link. -/
theorem removalOfAbsentStation : Obligations.RemovalOfAbsentStation := by
  intro r n s hrow habsent
  refine ⟨takeRequest r s, exec_removalRequest r s, ?_⟩
  rw [takeRequest_removal r s n hrow, takeRemoval_of_absent s r n habsent, answerStation_eq_forward]
  exact ⟨passed_forward _ (.refl s), by simp, forward_latched ..⟩

/-- Settles O15: a retirement is the backlog freed and one write to the station, by whether grants are issued. -/
theorem removalOfActiveStation : Obligations.RemovalOfActiveStation := by
  intro r n s hrow hactive
  refine ⟨takeRequest r s, exec_removalRequest r s, ?_⟩
  obtain ⟨x, a, hretire, hnone, hsome⟩ := retireStation_cases s n
  rw [takeRequest_removal r s n hrow, takeRemoval_of_active s r n hactive, answerStation_eq_forward, hretire]
  refine ⟨?free, ?leastFree, ?queue, ?lane, ?absent, ?retiring, passed_forward _ ?link, ?others, ?control, ?latched⟩
  case free => simpa using freeBacklog_free s n
  case lane => simpa using freeBacklog_lane s n
  case absent => simpa using hnone
  case retiring => simpa using hsome
  case link => simpa using freeBacklog_linkKept s n
  case others => simpa using freeBacklog_othersKept s n
  case control => simpa using freeBacklog_controlKept s n
  all_goals simp

end Sys2Proof.Machine
end

section
/-! PROOFS. An accepted POST (R28, R30 to R33, R163), with the frame laws of a pop and of a latch. -/

namespace Sys2Proof.Machine

open Sys2Proof

/-! ### Frames of a pop and of a latch -/

section PopAndLatchFrames

variable (s t : State) (n : StationId) (b : Bool) (c : Cause)

@[simp] theorem linkKept_popFree : LinkKept s t.popFree ↔ LinkKept s t := Iff.rfl
@[simp] theorem controlKept_popFree : ControlKept s t.popFree ↔ ControlKept s t := Iff.rfl
@[simp] theorem lanesKept_popFree : LanesKept s t.popFree ↔ LanesKept s t := Iff.rfl
@[simp] theorem othersKept_popFree : OthersKept n s t.popFree ↔ OthersKept n s t := Iff.rfl

@[simp] theorem lanesKept_setQueue (x : List PoolEntry) : LanesKept s (t.setQueue n x) ↔ LanesKept s t := Iff.rfl

@[simp] theorem linkKept_latchIf : LinkKept s (t.latchIf b c) ↔ LinkKept s t := by simp [LinkKept]
@[simp] theorem controlKept_latchIf : ControlKept s (t.latchIf b c) ↔ ControlKept s t := by simp [ControlKept]
@[simp] theorem lanesKept_latchIf : LanesKept s (t.latchIf b c) ↔ LanesKept s t := by simp [LanesKept]
@[simp] theorem othersKept_latchIf : OthersKept n s (t.latchIf b c) ↔ OthersKept n s t := by simp [OthersKept]

theorem latchIf_latched : (s.latchIf b c).latched = if b then s.latched ||| c.mask else s.latched := by
  cases b <;> rfl

end PopAndLatchFrames

/-! ### The checks and the parts of a POST -/

section Post

variable (s : State) (r : Request) (n : StationId)

theorem answerPost_eq_forward (code : ResultCode) :
    answerPost code n r s = s.forward (withWord r 3 (postResult code (s.queue n).length s.freeCount)) := rfl

theorem lifecycleCheck_eq_none_iff : lifecycleCheck s n = none ↔ (s.entry n).lifecycle = .active := by
  cases h : (s.entry n).lifecycle <;> simp [lifecycleCheck, h]

/-- A POST is accepted exactly where none of the five checks of R30 refuses it. -/
theorem postCheck_eq_none_iff (len : Nat) : postCheck s n len = none ↔
    (s.entry n).lifecycle = .active ∧ len ≠ 0 ∧ backlog s n < (s.entry n).shadow.depthLimit ∧ s.free ≠ [] := by
  rw [← lifecycleCheck_eq_none_iff]
  cases h : lifecycleCheck s n with
  | some code => simp [postCheck, h]
  | none => simp [postCheck, h, State.freeCount, ite_eq_iff]

theorem setEntry_entry_eq : s.setEntry n (s.entry n) = s := by
  simp [State.setEntry, State.entry]

/-- Wake-on-post writes the station's entry once: a dozing station stays so unless the flag is set (R32). -/
theorem wakeOnPost_eq_setEntry :
    wakeOnPost n r s = s.setEntry n { s.entry n with dozing := (s.entry n).dozing && !postWake r } := by
  cases h : postWake r
  · simpa [wakeOnPost, h] using (setEntry_entry_eq s n).symm
  · simp [wakeOnPost, h, setDozing]

/-- With a top entry on the stack, the watermark is crossed where it lies between the two free counts (R33). -/
theorem crossesLow_of_free {id : Nat} {rest : List Nat} (hfree : s.free = id :: rest) :
    crossesLow s = decide (s.watermark ≤ rest.length + 1 ∧ rest.length < s.watermark) := by
  simp [crossesLow, State.freeCount, hfree]

/-- An accepted POST is a pop, an append, one write to the station's entry and a latch, answered with the counts that
leaves (R29 to R33). -/
theorem takePost_of_accepted {id : Nat} {rest : List Nat} (hcheck : postCheck s n (postLen r) = none)
    (hfree : s.free = id :: rest) :
    takePost n r s =
      (((s.popFree.setQueue n (s.queue n ++ [postedEntry n r s])).setEntry n
          { s.entry n with dozing := (s.entry n).dozing && !postWake r }).latchIf (crossesLow s) .poolLow).forward
        (withWord r 3 (postResult .accepted ((s.queue n).length + 1) rest.length)) := by
  simp only [takePost, hcheck, wakeOnPost_eq_setEntry, appendPost, answerPost_eq_forward]
  simp [State.freeCount, hfree]

end Post

/-! ### The statement -/

/-- Settles O16: the accepting branch of the checks, and the fields of the pop, the append, the wake and the latch. -/
theorem postAccepted : Obligations.PostAccepted := by
  intro r n s id rest hrow hactive hlen hdepth hfree
  have hcheck : postCheck s n (postLen r) = none :=
    (postCheck_eq_none_iff s n _).2 ⟨hactive, hlen, hdepth, by simp [hfree]⟩
  refine ⟨takeRequest r s, exec_post r s, ?_⟩
  rw [takeRequest_post r s n hrow, takePost_of_accepted s r n hcheck hfree]
  refine ⟨?free, ?leastFree, ?queue, ?entry, ?account, ?latched, passed_forward _ ?link, ?others, ?lanes, ?control⟩
  case queue => simp [postedEntry, postAddr, postLen, hfree]
  case entry => simp [postWake, flag, bne]
  case latched => simp [latchIf_latched, crossesLow_of_free s hfree]
  all_goals simp [hfree]

end Sys2Proof.Machine
end

section
/-! PROOFS. The airtime accounts: the refill of a sweep visit (R56, R73), the pre-charge of an issue (R50, R112), the
correction of a matched completion (R52, R126) and the expiry that lets the charge stand (R54, R132). -/

namespace Sys2Proof.Machine

open Sys2Proof

/-! ### Frames of a lane, a push, a latch and an answered read -/

section AccountFrames

variable (s t : State) (r : Request) (l : LaneId) (n : StationId)

theorem answered_send {s t : State} (words : List Word) (h : LinkKept s t) :
    Answered r words s (t.send r (some words)) := by
  obtain ⟨hdown, houtstanding, hup⟩ := h
  exact ⟨by simp [hdown], by simp [houtstanding], by simp [hup]⟩

@[simp] theorem controlKept_send (a : Option (List Word)) : ControlKept s (t.send r a) ↔ ControlKept s t := Iff.rfl
@[simp] theorem poolKept_send (a : Option (List Word)) : PoolKept s (t.send r a) ↔ PoolKept s t := Iff.rfl
@[simp] theorem othersKept_send (a : Option (List Word)) : OthersKept n s (t.send r a) ↔ OthersKept n s t := Iff.rfl

@[simp] theorem linkKept_pushFree (id : Nat) : LinkKept s (t.pushFree id) ↔ LinkKept s t := Iff.rfl
@[simp] theorem controlKept_pushFree (id : Nat) : ControlKept s (t.pushFree id) ↔ ControlKept s t := Iff.rfl
@[simp] theorem othersKept_pushFree (id : Nat) : OthersKept n s (t.pushFree id) ↔ OthersKept n s t := Iff.rfl

@[simp] theorem linkKept_latch (c : Cause) : LinkKept s (t.latch c) ↔ LinkKept s t := Iff.rfl
@[simp] theorem controlKept_latch (c : Cause) : ControlKept s (t.latch c) ↔ ControlKept s t := Iff.rfl
@[simp] theorem othersKept_latch (c : Cause) : OthersKept n s (t.latch c) ↔ OthersKept n s t := Iff.rfl

@[simp] theorem poolKept_setLane (x : Lane) : PoolKept s (t.setLane l x) ↔ PoolKept s t := by simp [PoolKept]
@[simp] theorem poolKept_latchIf (b : Bool) (c : Cause) : PoolKept s (t.latchIf b c) ↔ PoolKept s t := by
  simp [PoolKept]

@[simp] theorem releaseGrant_leastFree (g : Grant) : (releaseGrant l g s).leastFree = s.leastFree := by
  simp [releaseGrant]
@[simp] theorem releaseGrant_latched (g : Grant) : (releaseGrant l g s).latched = s.latched := by simp [releaseGrant]
@[simp] theorem linkKept_releaseGrant (g : Grant) : LinkKept s (releaseGrant l g t) ↔ LinkKept s t := by
  simp [releaseGrant]
@[simp] theorem controlKept_releaseGrant (g : Grant) : ControlKept s (releaseGrant l g t) ↔ ControlKept s t := by
  simp [releaseGrant]
@[simp] theorem othersKept_releaseGrant (g : Grant) : OthersKept n s (releaseGrant l g t) ↔ OthersKept n s t := by
  simp [releaseGrant]

@[simp] theorem linkKept_refillGroup (g : Fin 32) : LinkKept s (refillGroup l g t) ↔ LinkKept s t := Iff.rfl
@[simp] theorem controlKept_refillGroup (g : Fin 32) : ControlKept s (refillGroup l g t) ↔ ControlKept s t := Iff.rfl
@[simp] theorem poolKept_refillGroup (g : Fin 32) : PoolKept s (refillGroup l g t) ↔ PoolKept s t := Iff.rfl

@[simp] theorem refillGroup_latched (g : Fin 32) : (refillGroup l g s).latched = s.latched := rfl

@[simp] theorem OtherLaneKept.refl : OtherLaneKept l s s := fun _ _ => rfl

@[simp] theorem otherLaneKept_setLane (x : Lane) : OtherLaneKept l s (t.setLane l x) ↔ OtherLaneKept l s t :=
  forall₂_congr fun _ hk => by rw [setLane_lane_other t hk]

@[simp] theorem otherLaneKept_setEntry (x : StationEntry) :
    OtherLaneKept l s (t.setEntry n x) ↔ OtherLaneKept l s t := by simp [OtherLaneKept]
@[simp] theorem otherLaneKept_setAccount (x : Account) :
    OtherLaneKept l s (t.setAccount n x) ↔ OtherLaneKept l s t := by simp [OtherLaneKept]
@[simp] theorem otherLaneKept_pushFree (id : Nat) :
    OtherLaneKept l s (t.pushFree id) ↔ OtherLaneKept l s t := by simp [OtherLaneKept]
@[simp] theorem otherLaneKept_latch (c : Cause) : OtherLaneKept l s (t.latch c) ↔ OtherLaneKept l s t := by
  simp [OtherLaneKept]
@[simp] theorem otherLaneKept_latchIf (b : Bool) (c : Cause) :
    OtherLaneKept l s (t.latchIf b c) ↔ OtherLaneKept l s t := by simp [OtherLaneKept]
@[simp] theorem otherLaneKept_releaseGrant (g : Grant) :
    OtherLaneKept l s (releaseGrant l g t) ↔ OtherLaneKept l s t := by simp [releaseGrant]
@[simp] theorem otherLaneKept_send (a : Option (List Word)) :
    OtherLaneKept l s (t.send r a) ↔ OtherLaneKept l s t := by simp [OtherLaneKept]
@[simp] theorem otherLaneKept_forward : OtherLaneKept l s (t.forward r) ↔ OtherLaneKept l s t := by
  simp [OtherLaneKept]
@[simp] theorem otherLaneKept_refillGroup (g : Fin 32) :
    OtherLaneKept l s (refillGroup l g t) ↔ OtherLaneKept l s t := by simp [OtherLaneKept]

end AccountFrames

/-! ### The sweep visit (R56, R73) -/

section SweepVisit

variable (s : State) (l : LaneId) (x : Lane)

theorem refilled_iff (g : Fin 32) (n : StationId) : refilled s l g n = true ↔
    (s.entry n).lifecycle = .active ∧ (s.entry n).shadow.lane = l ∧ n.val / 16 = g.val := by
  simp [refilled, and_assoc]

theorem afterVisit_of_lt (h : x.position.val < 31) :
    x.afterVisit = { x with position := x.position + 1, visitDue := false } := by
  have hne : x.position ≠ 31 := by simpa [Fin.ext_iff] using Nat.ne_of_lt h
  simp [Lane.afterVisit, hne]

theorem afterVisit_of_last (h : x.position = 31) (howed : x.owed = false) :
    x.afterVisit = { x with sweeping := false, position := 0, visitDue := false } := by
  simp [Lane.afterVisit, h, howed]

theorem afterVisit_of_owed (h : x.position = 31) (howed : x.owed = true) :
    x.afterVisit = { x with owed := false, position := 0, visitDue := false } := by
  simp [Lane.afterVisit, h, howed]

theorem takeSweepVisit_of_due (hsweep : (s.lane l).sweeping = true) (hdue : (s.lane l).visitDue = true) :
    takeSweepVisit l s = (refillGroup l (s.lane l).position s).setLane l (s.lane l).afterVisit := by
  simp [takeSweepVisit, hsweep, hdue]

end SweepVisit

/-! ### The end of a grant (R108, R127) -/

section EndOfGrant

variable (s u : State) (l : LaneId) (g : Grant)

theorem issuedCount_eq_zero_iff (x : Lane) (n : StationId) :
    issuedCount x n = 0 ↔ ∀ h ∈ x.issued, h.entry.owner ≠ n := by
  simp [issuedCount, List.countP_eq_zero]

/-- `EndsStation` is the test of `retireIfLast` on the lane the grant has left. -/
theorem endsStation_iff : EndsStation s l g ↔ (s.entry g.entry.owner).lifecycle = .retiring
    ∧ issuedCount ((s.lane l).dropGrant g.slot) g.entry.owner = 0 := by
  rw [issuedCount_eq_zero_iff]; rfl

theorem setLane_lane_eq : s.setLane l (s.lane l) = s := by cases l <;> rfl

theorem drainIfEmpty_eq_setLane : drainIfEmpty l s = s.setLane l (s.lane l).drained := by
  obtain ⟨hstate, hempty, h⟩ | ⟨hnot, h⟩ := drainIfEmpty_cases s l <;> rw [h]
  · rw [Lane.drained, if_pos ⟨hstate, hempty⟩]; rfl
  · rw [Lane.drained, if_neg hnot, setLane_lane_eq]

/-- What the removal of a grant brings, once it has left the lane's issued list: the lane is drained, and the station
is written once, by whether this was the last grant of a Retiring station. -/
theorem endOfGrant_cases (hentry : u.entry g.entry.owner = s.entry g.entry.owner)
    (hissued : (u.lane l).issued = ((s.lane l).dropGrant g.slot).issued) :
    ∃ x a, drainIfEmpty l (retireIfLast l g.entry.owner u)
        = ((u.setEntry g.entry.owner x).setAccount g.entry.owner a).setLane l (u.lane l).drained
      ∧ (¬EndsStation s l g → x = s.entry g.entry.owner ∧ a = u.account g.entry.owner)
      ∧ (EndsStation s l g → x = { s.entry g.entry.owner with lifecycle := .absent }
          ∧ a = { u.account g.entry.owner with credit := 0, floorReached := false }) := by
  have hcount : issuedCount (u.lane l) g.entry.owner
      = issuedCount ((s.lane l).dropGrant g.slot) g.entry.owner := by simp only [issuedCount, hissued]
  rw [drainIfEmpty_eq_setLane, endsStation_iff, ← hentry, ← hcount]
  obtain ⟨hretiring, hlast, h⟩ | ⟨hnot, h⟩ := retireIfLast_cases u l g.entry.owner
  · exact ⟨_, _, by rw [h, becomeAbsent_lane]; rfl, fun hn => absurd ⟨hretiring, hlast⟩ hn, fun _ => ⟨rfl, rfl⟩⟩
  · exact ⟨_, _, by rw [h, setEntry_entry_eq, setAccount_account_eq], fun _ => ⟨rfl, rfl⟩, fun hy => absurd hy hnot⟩

theorem takeGrantExpiry_of_due {k : Slot} (hfind : (s.lane l).grantAt k = some g) (hdue : g.deadline = s.count) :
    takeGrantExpiry l k s = expireGrant l g s := by
  simp [takeGrantExpiry, hfind, hdue]

/-- The state in which an expiry has settled the charge and taken the grant out of the list, before the station and the
lane may end with it (R132). -/
def settleExpiry : State :=
  (recordExpired l g (releaseGrant l g (dropReservation g.entry.owner g.estimate s))).latch .grantExpired

theorem expireGrant_eq :
    expireGrant l g s = drainIfEmpty l (retireIfLast l g.entry.owner (settleExpiry s l g)) := rfl

theorem settleExpiry_eq : settleExpiry s l g =
    ((releaseGrant l g (s.setAccount g.entry.owner { s.account g.entry.owner with
        reservation := (s.account g.entry.owner).reservation - g.estimate })).setLane l
      { (s.lane l).dropGrant g.slot with
        expired := (s.lane l).expired.set g.slot (some { addr := g.entry.addr, station := g.entry.owner }) }).latch
      .grantExpired := by
  simp [settleExpiry, recordExpired, dropReservation, Lane.dropGrant]

end EndOfGrant

/-! ### The issue of a staged grant (R50, R112) -/

section Issue

variable (s : State) (l : LaneId) (e : PoolEntry) (r : Request) (a : Account) (estimate : Nat)

theorem hasRoom_iff (x : Lane) :
    x.hasRoom = true ↔ x.issued.length < 4 ∧ ∀ g ∈ x.issued, g.slot ≠ x.expected + 60 := by
  simp only [Lane.hasRoom, Bool.and_eq_true, decide_eq_true_eq, Bool.not_eq_true', List.any_eq_false, beq_iff_eq]
  rfl

theorem preCharge_of_above (h : Config.creditFloor < a.credit - estimate) :
    a.preCharge estimate = { a with credit := a.credit - estimate, reservation := a.reservation + estimate } := by
  simp [Account.preCharge, max_eq_left h.le, h.not_ge]

theorem preCharge_of_floor (h : a.credit - estimate ≤ Config.creditFloor) :
    a.preCharge estimate =
      { a with credit := Config.creditFloor, floorReached := true, reservation := a.reservation + estimate } := by
  simp [Account.preCharge, h]

/-- An issue writes the lane and the station's account, latches CREDIT_FLOOR where the charge reaches the floor, and
answers the grant. -/
theorem takeRingRead_of_issue (hrun : (s.lane l).laneState = .running) (hstaged : (s.lane l).staged = some e)
    (hroom : (s.lane l).hasRoom = true) :
    takeRingRead l (s.lane l).expected true r s =
      (((s.setLane l ((s.lane l).issue (newGrant l e s))).setAccount e.owner
          ((s.account e.owner).preCharge (newGrant l e s).estimate)).latchIf
            (decide ((s.account e.owner).credit - (newGrant l e s).estimate ≤ Config.creditFloor)) .creditFloor).send r
        (some (grantWords (newGrant l e s))) := by
  simp [takeRingRead, readExpected, hrun, hstaged, hroom, answerRead, issueGrant, preChargeStation]

end Issue

/-! ### A matched completion (R52, R126) -/

section Matched

variable (s : State) (l : LaneId) (k : Slot) (r : Request) (g : Grant)

theorem answerCompletion_eq_forward (note : Word) :
    answerCompletion r note s = s.forward (withWord r 3 note) := rfl

theorem completionOwner_eq_false (h : bits (reqWord r 0) 31 31 = 0) : completionOwner r = false := by
  simp [completionOwner, flag, h]

/-- A completion's outcome field has the codes of a last outcome (sections 10.6 and 10.7). -/
theorem completionOutcome_eq_some {outcome : FrameOutcome}
    (h : bits (reqWord r 0) 1 0 = lastOutcomeCode (some outcome)) : completionOutcome r = some outcome := by
  cases outcome <;> simp [completionOutcome, h, lastOutcomeCode]

/-- A whole completion with its owner clear and a valid outcome, of a slot with an issued grant of its address, is
matched (R123, R125). -/
theorem takeCompletion_of_matched {outcome : FrameOutcome} (hlane : (s.lane l).laneState ≠ .off)
    (howner : completionOwner r = false) (houtcome : completionOutcome r = some outcome)
    (hfind : (s.lane l).grantAt k = some g) (haddr : reqWord r 1 = g.entry.addr) :
    takeCompletion l k true r s = matchedCompletion l g outcome r s := by
  simp [takeCompletion, hlane, howner, houtcome, classifyCompletion, hfind, haddr]

variable (airtime : Nat) (outcome : FrameOutcome)

@[simp] theorem correctStation_lane (m : LaneId) : (correctStation g airtime outcome s).lane m = s.lane m := by
  simp [correctStation]
@[simp] theorem correctStation_entry (m : StationId) : (correctStation g airtime outcome s).entry m = s.entry m := by
  simp [correctStation]
@[simp] theorem correctStation_queue (m : StationId) : (correctStation g airtime outcome s).queue m = s.queue m := by
  simp [correctStation]
@[simp] theorem correctStation_free : (correctStation g airtime outcome s).free = s.free := by simp [correctStation]
@[simp] theorem correctStation_leastFree : (correctStation g airtime outcome s).leastFree = s.leastFree := by
  simp [correctStation]

theorem correctStation_linkKept : LinkKept s (correctStation g airtime outcome s) := by simp [correctStation]
theorem correctStation_controlKept : ControlKept s (correctStation g airtime outcome s) := by simp [correctStation]
theorem correctStation_othersKept : OthersKept g.entry.owner s (correctStation g airtime outcome s) := by
  simp [correctStation]

theorem correctStation_otherLaneKept : OtherLaneKept l s (correctStation g airtime outcome s) := by
  simp [correctStation]

theorem correctStation_account {c : Int}
    (hc : c = correctedSum (s.account g.entry.owner) (ceilingAU (s.entry g.entry.owner).shadow) g.estimate airtime) :
    (correctStation g airtime outcome s).account g.entry.owner =
      { credit := if c ≤ Config.creditFloor then Config.creditFloor else c
        reservation := (s.account g.entry.owner).reservation - g.estimate
        floorReached := (s.account g.entry.owner).floorReached || decide (c ≤ Config.creditFloor)
        lastOutcome := some outcome } := by
  rw [correctStation, latchIf_account, setAccount_account_self]
  simp only [Account.correct, ← hc, max_def]

theorem correctStation_latched {c : Int}
    (hc : c = correctedSum (s.account g.entry.owner) (ceilingAU (s.entry g.entry.owner).shadow) g.estimate airtime) :
    (correctStation g airtime outcome s).latched =
      if c ≤ Config.creditFloor then s.latched ||| Cause.creditFloor.mask else s.latched := by
  simp [correctStation, latchIf_latched, ← hc]

end Matched

/-! ### The statements -/

/-- Settles O27: the visit is one refill of the group and one step of the sweep. -/
theorem sweepVisitRefillsItsGroup : Obligations.SweepVisitRefillsItsGroup := by
  intro s l hsweep hdue
  refine ⟨takeSweepVisit l s, rfl, ?_⟩
  rw [takeSweepVisit_of_due s l hsweep hdue]
  refine ⟨fun n => ⟨fun hin => ?member, fun hout => ?others, ?entry, ?queue⟩, ?position, ?ends, ?owed, ?otherLane, ?pool, ?link,
    ?control, ?latched⟩
  case member =>
    rw [setLane_account, refillGroup_account, if_pos ((refilled_iff ..).2 hin)]; rfl
  case others =>
    rw [setLane_account, refillGroup_account, if_neg (mt (refilled_iff ..).1 hout)]
  case position => simpa using afterVisit_of_lt (s.lane l)
  case ends => simpa using afterVisit_of_last (s.lane l)
  case owed => simpa using afterVisit_of_owed (s.lane l)
  all_goals simp

/-- Settles O29: the reservation falls, the grant is released and remembered, and the end of a grant follows. -/
theorem grantExpirySettlesTheCharge : Obligations.GrantExpirySettlesTheCharge := by
  intro s l k g hfind hdue
  obtain ⟨-, rfl⟩ := grantAt_some hfind
  refine ⟨takeGrantExpiry l g.slot s, rfl, ?_⟩
  obtain ⟨x, a, hend, hstays, hends⟩ :=
    endOfGrant_cases s (settleExpiry s l g) l g (by simp [settleExpiry_eq]) (by simp [settleExpiry_eq])
  rw [takeGrantExpiry_of_due s l g hfind hdue, expireGrant_eq, hend, settleExpiry_eq]
  refine ⟨?lane, ?free, ?leastFree, ?stays, ?ends, ?queue, ?latched, ?others, ?otherLane, ?link, ?control⟩
  case lane => simp [Lane.dropGrant]
  case stays => simpa [settleExpiry_eq] using hstays
  case ends => simpa [settleExpiry_eq] using hends
  all_goals simp

/-- Settles O43: the issuing branch of a ring read, and the two cases of the pre-charge. -/
theorem ringReadIssuesTheStagedGrant : Obligations.RingReadIssuesTheStagedGrant := by
  intro r l s e hrow hrun hstaged hlength hslots
  have hroom : (s.lane l).hasRoom = true := (hasRoom_iff _).2 ⟨hlength, hslots⟩
  refine ⟨takeRequest r s, exec_ringRead r s, ?_⟩
  rw [takeRequest_ringRead r s l _ true hrow, takeRingRead_of_issue s l e r hrun hstaged hroom,
    send_account, latchIf_account, setAccount_account_self, send_latched, latchIf_latched, setAccount_latched,
    setLane_latched]
  refine ⟨?lane, fun habove => ?above, fun hfloor => ?floor, answered_send _ _ ?link, ?entry, ?queue, ?others,
    ?otherLane, ?pool, ?control⟩
  case lane => simp [Lane.issue, newGrant]
  case above => exact ⟨preCharge_of_above _ _ habove, if_neg (mt of_decide_eq_true habove.not_ge)⟩
  case floor => exact ⟨preCharge_of_floor _ _ hfloor, if_pos (decide_eq_true hfloor)⟩
  all_goals simp

/-- Settles O47: the account is corrected, the grant is released, the end of a grant follows, and the note carries the
figures of the correction. -/
theorem matchedCompletionCorrectsTheCharge : Obligations.MatchedCompletionCorrectsTheCharge := by
  intro r l k s g outcome hrow hlane howner houtcome hfind haddr n a sum credit floor
  obtain ⟨-, rfl⟩ := grantAt_some hfind
  have hcode : bits (reqWord r 0) 1 0 = lastOutcomeCode (some outcome) := by cases outcome <;> exact houtcome
  have hsum : sum = correctedSum a (ceilingAU (s.entry n).shadow) g.estimate (completionAirtime r) := rfl
  have haccount : (correctStation g (completionAirtime r) outcome s).account n =
      { credit := credit, reservation := a.reservation - g.estimate, floorReached := floor,
        lastOutcome := some outcome } :=
    correctStation_account s g _ outcome hsum
  have hlatched : (correctStation g (completionAirtime r) outcome s).latched =
      if sum ≤ -8388608 then s.latched ||| Cause.creditFloor.mask else s.latched :=
    correctStation_latched s g _ outcome hsum
  refine ⟨takeRequest r s, exec_completion r s, ?_⟩
  rw [takeRequest_completion r s l _ true hrow, takeCompletion_of_matched s l _ r g hlane
    (completionOwner_eq_false r howner) (completionOutcome_eq_some r hcode) hfind haddr, matchedCompletion]
  obtain ⟨x, b, hend, hstays, hends⟩ := endOfGrant_cases s
    (releaseGrant l g (correctStation g (completionAirtime r) outcome s)) l g (by simp) (by simp)
  rw [hend, answerCompletion_eq_forward]
  subst n
  rw [releaseGrant_account, haccount] at hstays hends
  refine ⟨?lane, ?free, ?leastFree, ?stays, ?ends, ?queue, ?latched, ?passed, ?others, ?otherLane, ?control⟩
  case lane => simp [Lane.dropGrant]
  case stays => simpa using hstays
  case ends => simpa using hends
  case latched => simpa using hlatched
  case passed => rw [haccount]; exact passed_forward _ (by simpa using correctStation_linkKept s g _ outcome)
  case others => simpa using correctStation_othersKept s g _ outcome
  case otherLane => simpa using correctStation_otherLaneKept s l g _ outcome
  case control => simpa using correctStation_controlKept s g _ outcome
  all_goals simp

end Sys2Proof.Machine
end

section
/-! PROOFS. Lane timers and service phases: the enable of an Off lane (R69, R105). -/

namespace Sys2Proof.Machine

open Sys2Proof

/-! ### The fields of an enable -/

section LaneFields

variable (x : Lane)

/-- A phase mode acts on the phase and its timers alone (R77). -/
theorem changeMode_laneState (m : PhaseMode) : (x.changeMode m).laneState = x.laneState := by
  by_cases hsame : m = x.mode
  · simp [Lane.changeMode, hsame]
  · cases m
    case alternate => cases hphase : x.phase <;> simp [Lane.changeMode, hsame, hphase, Lane.startPhase]
    case reservedOnly => simp [Lane.changeMode, hsame, Lane.fixPhase]
    case sharedOnly => simp [Lane.changeMode, hsame, Lane.fixPhase]

/-- A lane's settings say nothing of its state, which only enable and disable change (R104). -/
@[simp] theorem takeSettings_laneState (r : LaneRecord) : (x.takeSettings r).laneState = x.laneState := by
  cases hstate : x.laneState <;> simp [Lane.takeSettings, hstate, changeMode_laneState]

/-- The phase an enable starts with, and the only phase timer that it can start, by the phase mode (R69). -/
theorem enterMode_eq : x.enterMode = { x with
    phase := if x.mode = .sharedOnly then .shared else .reserved
    reservedTimer := if x.mode = .alternate then some x.reservedSetting.period else none
    sharedTimer := none } := by
  cases hmode : x.mode
  case alternate => simp [Lane.enterMode, hmode, Lane.startPhase]
  case reservedOnly => simp [Lane.enterMode, hmode, Lane.fixPhase]
  case sharedOnly => simp [Lane.enterMode, hmode, Lane.fixPhase]

theorem enable_eq (k : Slot) : x.enable k = { x with
    laneState := .running, expected := k, nextSeq := 0
    refillTimer := some x.refillSetting.period
    sweeping := false, position := 0, owed := false, visitDue := false
    phase := if x.mode = .sharedOnly then .shared else .reserved
    reservedTimer := if x.mode = .alternate then some x.reservedSetting.period else none
    sharedTimer := none } := by
  rw [Lane.enable, enterMode_eq]; rfl

end LaneFields

/-! ### The lane record write -/

section LaneWrites

variable (s : State) (l : LaneId) (r : Request) (x : Lane)

theorem setLane_setLane (y : Lane) : (s.setLane l x).setLane l y = s.setLane l y := by cases l <;> rfl

/-- A write of one lane, the request sent on, changes nothing else of the part. -/
theorem setLane_forward_frame (t : State) (ht : t = (s.setLane l x).forward r) :
    Passed r s t ∧ OtherLaneKept l s t ∧ StationsKept s t ∧ PoolKept s t ∧ ControlKept s t
      ∧ t.latched = s.latched := by
  rw [ht]
  refine ⟨passed_forward _ ?link, ?otherLane, fun _ => ⟨?entry, ?account, ?queue⟩, ?pool, ?control, ?latched⟩
  all_goals simp

/-- An enable of an Off lane is one write of the lane: its settings, then the start (R67, R105). -/
theorem takeLaneEnable_of_off (hoff : (s.lane l).laneState = .off) :
    takeLaneEnable l r s =
      (s.setLane l (((s.lane l).takeSettings (readLaneRecord r)).enable (clampStart (readLaneRecord r).start))).forward
        (withWord r 7 (laneResult (readLaneRecord r) .running)) := by
  have hstart : applyEnable l r (takeLaneSettings l r s) =
      s.setLane l (((s.lane l).takeSettings (readLaneRecord r)).enable (clampStart (readLaneRecord r).start)) := by
    simp [applyEnable, takeLaneSettings, hoff, setLane_setLane]
  rw [takeLaneEnable, hstart, answerLane, setLane_lane_self]
  rfl

end LaneWrites

/-! ### The statement -/

/-- Settles O35: the enable is one write of the lane, whose fields `enable_eq` gives. -/
theorem enableStartsAnOffLane : Obligations.EnableStartsAnOffLane := by
  intro r l s hrow hoff y
  have hwrite := (takeRequest_laneEnable r s l hrow).trans (takeLaneEnable_of_off s l r hoff)
  refine ⟨takeRequest r s, exec_laneEnable r s, ?lane, setLane_forward_frame _ _ _ _ _ hwrite⟩
  rw [hwrite, forward_lane, setLane_lane_self]
  exact enable_eq y (clampStart (readLaneRecord r).start)

end Sys2Proof.Machine
end

section
/-! PROOFS. The Grant Selector's staging decision: the scan of a class with credit and the fallback to the smallest
debt (R83 to R91). -/

namespace Sys2Proof.Machine

open Sys2Proof

/-! ### The candidate sets -/

section Candidates

variable (s : State) (l : LaneId) (c : ServiceClass) (n : StationId)

theorem ready_iff : ready s l n = true ↔ Ready s l n := by
  simp [ready, Ready, and_assoc]

theorem candidate_iff : candidate s l c n = true ↔ InSet s l c n := by
  simp [candidate, InSet, classOf, ready_iff, and_assoc]

end Candidates

/-! ### The scan -/

section Scan

variable {s : State} {l : LaneId} {c : ServiceClass} {p n : StationId}

theorem length_scanOrder : (scanOrder p).length = 512 := by simp [scanOrder]

/-- The station at a place of the scan has that place, so the scan lists the stations by their place. -/
theorem scanPlace_getElem_scanOrder {i : Nat} (h : i < (scanOrder p).length) :
    scanPlace p (scanOrder p)[i] = i := by
  simp [scanOrder, scanPlace]

theorem scanOrder_getElem_scanPlace :
    ∃ h : scanPlace p n < (scanOrder p).length, (scanOrder p)[scanPlace p n] = n := by
  refine ⟨by rw [length_scanOrder]; exact (n - (p + 1)).isLt, ?_⟩
  simp [scanOrder, scanPlace]

theorem mem_scanOrder : n ∈ scanOrder p := by
  obtain ⟨h, hn⟩ := scanOrder_getElem_scanPlace (p := p) (n := n)
  exact hn ▸ List.getElem_mem h

/-- A scan of an empty candidate set finds no station. -/
theorem scan_eq_none_iff : scan s l c p = none ↔ ∀ m, ¬InSet s l c m := by
  simp [scan, List.find?_eq_none, mem_scanOrder, candidate_iff]

/-- A scan finds the member of the candidate set at the lowest place (R88). -/
theorem scan_eq_some_of_first (hn : InSet s l c n)
    (hfirst : ∀ m, InSet s l c m → scanPlace p n ≤ scanPlace p m) : scan s l c p = some n := by
  obtain ⟨hplace, hget⟩ := scanOrder_getElem_scanPlace (p := p) (n := n)
  rw [scan, List.find?_eq_some_iff_getElem]
  refine ⟨(candidate_iff s l c n).mpr hn, scanPlace p n, hplace, hget, ?_⟩
  intro j hj
  have hlen : j < (scanOrder p).length := hj.trans hplace
  have hnot : ¬InSet s l c (scanOrder p)[j] := fun hm =>
    not_lt.mpr ((hfirst _ hm).trans_eq (scanPlace_getElem_scanOrder hlen)) hj
  simpa only [Bool.not_eq_true', Bool.eq_false_iff, ne_eq, candidate_iff] using hnot

end Scan

/-! ### The fallback -/

section Fallback

variable {s : State} {l : LaneId} {n : StationId}

/-- A comparison keeps the best station so far or takes the new one (R89). -/
theorem betterOf_eq (best : Option StationId) (m : StationId) :
    betterOf s best m = best ∨ betterOf s best m = some m := by
  cases best with
  | none => exact .inr rfl
  | some b =>
    by_cases hlt : (s.account b).credit < (s.account m).credit
    · exact .inr (if_pos hlt)
    · exact .inl (if_neg hlt)

/-- What the fallback holds after some stations is what it held before or one of them. -/
theorem foldl_betterOf_eq_some {ms : List StationId} {best : Option StationId} {b : StationId}
    (h : ms.foldl (betterOf s) best = some b) : best = some b ∨ b ∈ ms := by
  induction ms generalizing best with
  | nil => exact .inl h
  | cons m ms ih =>
    rcases ih h with hstep | hmem
    · rcases betterOf_eq best m with hkept | htaken
      · exact .inl (hkept ▸ hstep)
      · exact .inr (List.mem_cons.mpr (.inl (Option.some.inj (htaken ▸ hstep)).symm))
    · exact .inr (List.mem_cons_of_mem m hmem)

/-- A station that no later one exceeds in credit stays the best (R89). -/
theorem foldl_betterOf_some {ms : List StationId} (h : ∀ m ∈ ms, (s.account m).credit ≤ (s.account n).credit) :
    ms.foldl (betterOf s) (some n) = some n := by
  induction ms with
  | nil => rfl
  | cons m ms ih =>
    obtain ⟨hm, hms⟩ := List.forall_mem_cons.mp h
    have hkeep : betterOf s (some n) m = some n := if_neg (not_lt.mpr hm)
    rw [List.foldl_cons, hkeep, ih hms]

/-- A station above the credit of all before it becomes the best (R89). -/
theorem betterOf_foldl_of_lt {ms : List StationId} (h : ∀ m ∈ ms, (s.account m).credit < (s.account n).credit) :
    betterOf s (ms.foldl (betterOf s) none) n = some n := by
  cases hbest : ms.foldl (betterOf s) none with
  | none => rfl
  | some b =>
    have hb : b ∈ ms := (foldl_betterOf_eq_some hbest).resolve_left (by simp)
    exact if_pos (h b hb)

/-- The fallback's winner is the ready station of the highest credit, of the lowest index between equals (R89). -/
theorem fallback_eq_some_of_best (hn : Ready s l n)
    (hbest : ∀ m, Ready s l m → (s.account m).credit < (s.account n).credit
      ∨ ((s.account m).credit = (s.account n).credit ∧ n ≤ m)) : fallback s l = some n := by
  have hready : ∀ m, m ∈ (List.finRange 512).filter (ready s l) ↔ Ready s l m := fun m => by simp [ready_iff]
  have hrising : ((List.finRange 512).filter (ready s l)).Pairwise (· < ·) :=
    (List.pairwise_lt_finRange 512).filter _
  obtain ⟨before, after, hsplit⟩ := List.append_of_mem ((hready n).mpr hn)
  rw [hsplit] at hready hrising
  have hbefore : ∀ m ∈ before, (s.account m).credit < (s.account n).credit := fun m hm => by
    have hlt : m < n := (List.pairwise_append.mp hrising).2.2 m hm n List.mem_cons_self
    exact (hbest m ((hready m).mp (List.mem_append_left _ hm))).resolve_right
      fun ⟨_, hle⟩ => absurd hlt (not_lt.mpr hle)
  have hafter : ∀ m ∈ after, (s.account m).credit ≤ (s.account n).credit := fun m hm => by
    have hm' : m ∈ before ++ n :: after := List.mem_append_right _ (List.mem_cons_of_mem n hm)
    exact (hbest m ((hready m).mp hm')).elim le_of_lt fun ⟨heq, _⟩ => le_of_eq heq
  rw [fallback, hsplit, List.foldl_append, List.foldl_cons, betterOf_foldl_of_lt hbefore, foldl_betterOf_some hafter]

end Fallback

/-! ### The winner -/

section Winner

variable {s : State} {l : LaneId} {n : StationId}

theorem eq_other_of_ne {c d : ServiceClass} (h : c ≠ d) : c = d.other := by
  cases d with
  | reserved => cases c with
    | reserved => exact absurd rfl h
    | shared => rfl
  | shared => cases c with
    | reserved => rfl
    | shared => exact absurd rfl h

/-- Step 1: a station found by the scan of the phase's class wins (R87). -/
theorem winner_of_phase_scan (h : scan s l (s.lane l).phase ((s.lane l).pointer (s.lane l).phase) = some n) :
    winner s l = some (n, some (s.lane l).phase) := by
  unfold winner
  simp only [h]

/-- Step 2: with the phase's set empty, a station found by the scan of the other class wins (R87). -/
theorem winner_of_other_scan (hempty : ∀ m, ¬InSet s l (s.lane l).phase m)
    (h : scan s l (s.lane l).phase.other ((s.lane l).pointer (s.lane l).phase.other) = some n) :
    winner s l = some (n, some (s.lane l).phase.other) := by
  have hnone : scan s l (s.lane l).phase ((s.lane l).pointer (s.lane l).phase) = none := scan_eq_none_iff.mpr hempty
  unfold winner
  simp only [hnone, h]

/-- Step 3: with both sets empty the fallback's station wins and no pointer is to move (R87). -/
theorem winner_of_fallback (hempty : ∀ c m, ¬InSet s l c m) (h : fallback s l = some n) :
    winner s l = some (n, none) := by
  have hnone : ∀ c, scan s l c ((s.lane l).pointer c) = none := fun c => scan_eq_none_iff.mpr (hempty c)
  unfold winner
  simp only [hnone, h, Option.map_some]

/-- The first member of the set of the class to search wins, whichever step searches it (R87, R88). -/
theorem winner_of_first {c : ServiceClass} (hsearched : c = (s.lane l).phase ∨ ∀ m, ¬InSet s l (s.lane l).phase m)
    (hn : InSet s l c n)
    (hfirst : ∀ m, InSet s l c m → scanPlace ((s.lane l).pointer c) n ≤ scanPlace ((s.lane l).pointer c) m) :
    winner s l = some (n, some c) := by
  have hscan : scan s l c ((s.lane l).pointer c) = some n := scan_eq_some_of_first hn hfirst
  rcases hsearched with rfl | hempty
  · exact winner_of_phase_scan hscan
  · have hother : c = (s.lane l).phase.other := eq_other_of_ne fun hphase => hempty n (hphase ▸ hn)
    subst hother
    exact winner_of_other_scan hempty hscan

end Winner

/-! ### Staging the winner -/

section Stage

variable {s : State} {l : LaneId} {n : StationId} {moved : Option ServiceClass}

theorem exec_stagingDecision : exec (.stagingDecision l) s = .next (takeStaging l s) := rfl

@[simp] theorem poolKept_setQueue (t : State) (x : List PoolEntry) : PoolKept s (t.setQueue n x) ↔ PoolKept s t :=
  Iff.rfl

@[simp] theorem otherLaneKept_setQueue (t : State) (x : List PoolEntry) :
    OtherLaneKept l s (t.setQueue n x) ↔ OtherLaneKept l s t := by simp [OtherLaneKept]

/-- A class's pointer moved is that pointer written and the other kept (R88). -/
theorem movePointer_some (x : Lane) (c : ServiceClass) : x.movePointer (some c) n = { x with
    reservedPtr := if c = .reserved then n else x.reservedPtr
    sharedPtr := if c = .shared then n else x.sharedPtr } := by
  cases c <;> rfl

theorem stage_of_queue {e : PoolEntry} {rest : List PoolEntry} (hqueue : s.queue n = e :: rest) :
    stage l n moved s =
      (s.setLane l { (s.lane l).movePointer moved n with staged := some e }).setQueue n rest := by
  simp [stage, hqueue]

theorem takeStaging_of_winner (hrun : (s.lane l).laneState = .running) (hslot : (s.lane l).staged = none)
    (hwin : winner s l = some (n, moved)) : takeStaging l s = stage l n moved s := by
  simp [takeStaging, hrun, hslot, hwin]

/-- A decision with a ready winner stages its queue head and moves the pointer of the step that found it; nothing
else changes (R26, R91). -/
theorem stagingDecision_of_winner (hrun : (s.lane l).laneState = .running) (hslot : (s.lane l).staged = none)
    (hready : Ready s l n) (hwin : winner s l = some (n, moved)) :
    ∃ t e rest, exec (.stagingDecision l) s = .next t ∧ s.queue n = e :: rest ∧ t.queue n = rest
      ∧ t.lane l = { (s.lane l).movePointer moved n with staged := some e }
      ∧ t.entry n = s.entry n ∧ t.account n = s.account n
      ∧ OthersKept n s t ∧ OtherLaneKept l s t ∧ PoolKept s t ∧ LinkKept s t ∧ ControlKept s t
      ∧ t.latched = s.latched := by
  obtain ⟨-, -, -, -, hqueue⟩ := hready
  obtain ⟨e, rest, hqueue⟩ := List.exists_cons_of_ne_nil hqueue
  refine ⟨_, e, rest, exec_stagingDecision, hqueue, ?_⟩
  rw [takeStaging_of_winner hrun hslot hwin, stage_of_queue hqueue]
  simp

end Stage

/-! ### The statements -/

/-- Settles O30: the scan's first member is the winner of step 1 or 2, and staging it moves the pointer of its class
alone. -/
theorem stagingServesAClassWithCredit : Obligations.StagingServesAClassWithCredit := by
  intro s l c n hrun hslot hsearched hn hfirst
  have hstaged := stagingDecision_of_winner hrun hslot hn.1 (winner_of_first hsearched hn hfirst)
  rwa [movePointer_some] at hstaged

/-- Settles O31: with both sets empty the fallback's station is the winner, and staging it moves no pointer. -/
theorem stagingFallsBackToTheSmallestDebt : Obligations.StagingFallsBackToTheSmallestDebt := by
  intro s l n hrun hslot hempty hready hbest
  exact stagingDecision_of_winner hrun hslot hready
    (winner_of_fallback hempty (fallback_eq_some_of_best hready hbest))

end Sys2Proof.Machine
end

section
/-! PROOFS. The transmit rings: the ring reads that issue no grant (R111, R113 to R116, R118, R119). -/

namespace Sys2Proof.Machine

open Sys2Proof

/-! ### What a ring read does, by lane state and slot -/

section RingReads

variable {s u : State} {l : LaneId} {k : Slot} {r : Request} {g : Grant}

theorem grantAt_eq_none_iff {x : Lane} : x.grantAt k = none ↔ ∀ g ∈ x.issued, g.slot ≠ k := by
  simp [Lane.grantAt, List.find?_eq_none]

theorem takeRingRead_of_off (whole : Bool) (hoff : (s.lane l).laneState = .off) :
    takeRingRead l k whole r s = s.forward r := by
  cases whole <;> simp [takeRingRead, hoff]

/-- A partial read of a Running or Draining lane looks at no grant (R116). -/
theorem takeRingRead_of_partial (hon : (s.lane l).laneState ≠ .off) :
    takeRingRead l k false r s = (s.latch .ringOrder).forward r := by
  cases hstate : (s.lane l).laneState with
  | off => exact absurd hstate hon
  | running => simp [takeRingRead, hstate]
  | draining => simp [takeRingRead, hstate]

/-- The expected slot is empty without a staged grant, or without room in the issued list (R110, R113). -/
theorem takeRingRead_of_no_issue (hrun : (s.lane l).laneState = .running)
    (hno : (s.lane l).staged = none ∨ (s.lane l).hasRoom = false) :
    takeRingRead l (s.lane l).expected true r s = s.send r (some emptyAnswer) := by
  cases hstaged : (s.lane l).staged with
  | none => simp [takeRingRead, readExpected, hrun, hstaged, answerRead]
  | some e =>
    have hfull : (s.lane l).hasRoom = false := hno.resolve_left (by simp [hstaged])
    simp [takeRingRead, readExpected, hrun, hstaged, hfull, answerRead]

/-- A slot whose grant has been issued, and which is not awaited by a Running lane, answers that grant (R114). -/
theorem takeRingRead_of_issued
    (hlane : (s.lane l).laneState = .running ∧ k ≠ (s.lane l).expected ∨ (s.lane l).laneState = .draining)
    (hfind : (s.lane l).grantAt k = some g) :
    takeRingRead l k true r s = s.send r (some (grantWords g)) := by
  obtain ⟨hrun, hother⟩ | hdrain := hlane
  · simp [takeRingRead, hrun, hother, hfind, answerRead]
  · simp [takeRingRead, hdrain, hfind, answerRead]

/-- A Running lane takes a read of a slot neither awaited nor issued for a fault of order (R115). -/
theorem takeRingRead_of_wrong_slot (hrun : (s.lane l).laneState = .running) (hother : k ≠ (s.lane l).expected)
    (hnone : (s.lane l).grantAt k = none) :
    takeRingRead l k true r s = (s.latch .ringOrder).send r (some emptyAnswer) := by
  simp [takeRingRead, hrun, hother, hnone, answerRead]

/-- A Draining lane awaits no slot, so an unissued one is no fault of order (R118). -/
theorem takeRingRead_of_draining (hdrain : (s.lane l).laneState = .draining) (hnone : (s.lane l).grantAt k = none) :
    takeRingRead l k true r s = s.send r (some emptyAnswer) := by
  simp [takeRingRead, hdrain, hnone, answerRead]

theorem hasRoom_eq_false {x : Lane} (h : 4 ≤ x.issued.length ∨ ∃ g ∈ x.issued, g.slot = x.expected + 60) :
    x.hasRoom = false := by
  refine Bool.eq_false_iff.2 fun hroom => ?_
  obtain ⟨hlength, hslots⟩ := (hasRoom_iff x).1 hroom
  obtain hfull | ⟨g, hg, hslot⟩ := h
  · exact absurd hlength hfull.not_gt
  · exact hslots g hg hslot

/-! ### The frames of an answered and of a passed read -/

/-- A read whose branch answers it, from the state `u` that differs from `s` in the latched causes at most (R140). -/
theorem ringRead_answered {words : List Word} (hrow : classify s r = .ringRead l k true)
    (htake : takeRingRead l k true r s = u.send r (some words)) (hlink : LinkKept s u) (hpart : PartKept s u) :
    ∃ t, exec (.ringRead r) s = .next t ∧ Answered r words s t ∧ PartKept s t ∧ t.latched = u.latched := by
  refine ⟨takeRequest r s, exec_ringRead r s, ?_⟩
  rw [takeRequest_ringRead r s l k true hrow, htake]
  exact ⟨answered_send r words hlink, hpart, rfl⟩

/-- A read whose branch sends it on to memory, from such a state `u` (R116, R119). -/
theorem ringRead_passed {whole : Bool} (hrow : classify s r = .ringRead l k whole)
    (htake : takeRingRead l k whole r s = u.forward r) (hlink : LinkKept s u) (hpart : PartKept s u) :
    ∃ t, exec (.ringRead r) s = .next t ∧ Passed r s t ∧ PartKept s t ∧ t.latched = u.latched := by
  refine ⟨takeRequest r s, exec_ringRead r s, ?_⟩
  rw [takeRequest_ringRead r s l k whole hrow, htake]
  exact ⟨passed_forward r hlink, hpart, rfl⟩

theorem latch_linkKept (c : Cause) : LinkKept s (s.latch c) := (linkKept_latch s s c).2 (.refl s)
theorem latch_partKept (c : Cause) : PartKept s (s.latch c) := PartKept.refl s

end RingReads

/-! ### The statements -/

/-- Settles O44: the rows of R111 that issue nothing answer from the state as it stands, or with RING_ORDER latched. -/
theorem ringReadAnsweredAgainOrEmpty : Obligations.RingReadAnsweredAgainOrEmpty := by
  intro r l k s hrow x answeredWith
  refine ⟨fun hrun hk hno => ?expected, fun hrun hother hslots => ?wrongSlot, fun g hlane hfind => ?again,
    fun hdrain hslots => ?draining⟩
  case expected =>
    subst hk
    exact ringRead_answered hrow (takeRingRead_of_no_issue hrun (hno.imp_right hasRoom_eq_false)) (.refl s) (.refl s)
  case wrongSlot =>
    exact ringRead_answered hrow (takeRingRead_of_wrong_slot hrun hother (grantAt_eq_none_iff.2 hslots))
      (latch_linkKept _) (latch_partKept _)
  case again => exact ringRead_answered hrow (takeRingRead_of_issued hlane hfind) (.refl s) (.refl s)
  case draining =>
    exact ringRead_answered hrow (takeRingRead_of_draining hdrain (grantAt_eq_none_iff.2 hslots)) (.refl s) (.refl s)

/-- Settles O45: both passing branches of a ring read send it on, the partial one with RING_ORDER latched. -/
theorem ringReadPassesToMemory : Obligations.RingReadPassesToMemory := by
  intro r l k whole s hrow
  refine ⟨fun hoff => ?off, fun hon hpartial => ?partialRead⟩
  case off => exact ringRead_passed hrow (takeRingRead_of_off whole hoff) (.refl s) (.refl s)
  case partialRead =>
    subst hpartial
    exact ringRead_passed hrow (takeRingRead_of_partial hon) (latch_linkKept _) (latch_partKept _)

end Sys2Proof.Machine
end

section
/-! PROOFS. The completions that match no grant (R122, R123, R125, R128 to R130, R136): late, unmatched, with a framing
fault, and of an Off lane. -/

namespace Sys2Proof.Machine

open Sys2Proof

/-! ### The fields that decide a framing fault (R123) -/

section Fields

variable {r : Request}

theorem completionOwner_eq_true (h : bits (reqWord r 0) 31 31 = 1) : completionOwner r = true := by
  simp [completionOwner, flag, h]

/-- Outcome code 3 alone is no outcome (section 10.7). -/
theorem completionOutcome_eq_none_iff : completionOutcome r = none ↔ bits (reqWord r 0) 1 0 = 3 := by
  have hlt : bits (reqWord r 0) 1 0 < 4 := Nat.mod_lt _ (by decide)
  unfold completionOutcome
  interval_cases bits (reqWord r 0) 1 0 <;> simp

theorem exists_completionOutcome (h : bits (reqWord r 0) 1 0 ≠ 3) : ∃ outcome, completionOutcome r = some outcome :=
  Option.ne_none_iff_exists'.1 (mt completionOutcome_eq_none_iff.1 h)

end Fields

/-! ### What a completion does, by lane state, framing and slot -/

section Completions

variable {s u : State} {l : LaneId} {k : Slot} {r : Request} {outcome : FrameOutcome} {g : Grant} {y : ExpiredRecord}

theorem takeCompletion_of_off (whole : Bool) (hoff : (s.lane l).laneState = .off) :
    takeCompletion l k whole r s = s.forward r := if_pos hoff

/-- A completion that is not whole is checked for nothing else (R123). -/
theorem takeCompletion_of_partial (hon : (s.lane l).laneState ≠ .off) :
    takeCompletion l k false r s = (s.latch .completionFraming).forward r := by
  simp [takeCompletion, hon]

/-- A whole completion with its owner set or no outcome is noted FRAMING before its slot is looked at (R123). -/
theorem takeCompletion_of_framing (hon : (s.lane l).laneState ≠ .off)
    (hfault : completionOwner r = true ∨ completionOutcome r = none) :
    takeCompletion l k true r s = answerCompletion r framingNote (s.latch .completionFraming) := by
  obtain howner | houtcome := hfault
  · simp [takeCompletion, hon, howner]
  · simp [takeCompletion, hon, houtcome]

/-- A whole completion without a framing fault is classified by its slot (R125). -/
theorem takeCompletion_of_wellFormed (hon : (s.lane l).laneState ≠ .off) (howner : completionOwner r = false)
    (houtcome : completionOutcome r = some outcome) :
    takeCompletion l k true r s = classifyCompletion l k outcome r s := by
  simp [takeCompletion, hon, howner, houtcome]

theorem classifyCompletion_of_late (hnone : (s.lane l).grantAt k = none) (hexpired : (s.lane l).expired[k] = some y)
    (haddr : reqWord r 1 = y.addr) : classifyCompletion l k outcome r s = lateCompletion y r s := by
  simp [classifyCompletion, hnone, hexpired, haddr]

/-- A slot without a grant that remembers no expired grant of the address gives an unmatched completion (R125). -/
theorem classifyCompletion_of_unremembered (hnone : (s.lane l).grantAt k = none)
    (haddr : ∀ y, (s.lane l).expired[k] = some y → reqWord r 1 ≠ y.addr) :
    classifyCompletion l k outcome r s = unmatchedCompletion r s := by
  cases hexpired : (s.lane l).expired[k] with
  | none => simp [classifyCompletion, hnone, hexpired]
  | some y => simp [classifyCompletion, hnone, hexpired, haddr y hexpired]

/-- A slot whose grant is of another address gives an unmatched completion, whatever the slot remembers (R125). -/
theorem classifyCompletion_of_other_addr (hfind : (s.lane l).grantAt k = some g) (haddr : reqWord r 1 ≠ g.entry.addr) :
    classifyCompletion l k outcome r s = unmatchedCompletion r s := by
  simp [classifyCompletion, hfind, haddr]

/-! ### The frames of a passed and of a noted completion -/

/-- A completion whose branch sends `sent` on, from a state `u` that differs from `s` in the latched causes at most. -/
theorem completion_passed {whole : Bool} {sent : Request} (hrow : classify s r = .completion l k whole)
    (htake : takeCompletion l k whole r s = u.forward sent) (hlink : LinkKept s u) (hpart : PartKept s u) :
    ∃ t, exec (.completion r) s = .next t ∧ Passed sent s t ∧ PartKept s t ∧ t.latched = u.latched := by
  refine ⟨takeRequest r s, exec_completion r s, ?_⟩
  rw [takeRequest_completion r s l k whole hrow, htake]
  exact ⟨passed_forward sent hlink, hpart, rfl⟩

/-- A completion whose branch writes a note and latches its cause (R122, R148). -/
theorem completion_noted {note : Word} {c : Cause} (hrow : classify s r = .completion l k true)
    (htake : takeCompletion l k true r s = answerCompletion r note (s.latch c)) :
    ∃ t, exec (.completion r) s = .next t ∧ Passed (withWord r 3 note) s t ∧ PartKept s t
      ∧ t.latched = s.latched ||| c.mask :=
  completion_passed hrow (htake.trans (answerCompletion_eq_forward ..)) (latch_linkKept c) (latch_partKept c)

end Completions

/-! ### The statements -/

/-- Settles O48: a well-formed completion is classified by its slot, and the two rows of R125 that match no grant write
their note from the state as it stands. -/
theorem lateAndUnmatchedCompletions : Obligations.LateAndUnmatchedCompletions := by
  intro r l k s hrow hon howner hvalid x notedWith
  obtain ⟨outcome, houtcome⟩ := exists_completionOutcome hvalid
  have htake : takeCompletion l k true r s = classifyCompletion l k outcome r s :=
    takeCompletion_of_wellFormed hon (completionOwner_eq_false r howner) houtcome
  refine ⟨fun y hslots hexpired haddr => ?late, fun hslots haddr => ?unremembered, fun g hfind haddr => ?otherAddr⟩
  case late =>
    exact completion_noted hrow
      (htake.trans (classifyCompletion_of_late (grantAt_eq_none_iff.2 hslots) hexpired haddr))
  case unremembered =>
    exact completion_noted hrow
      (htake.trans (classifyCompletion_of_unremembered (grantAt_eq_none_iff.2 hslots) haddr))
  case otherAddr => exact completion_noted hrow (htake.trans (classifyCompletion_of_other_addr hfind haddr))

/-- Settles O49: the three branches that look at no slot, the framing ones with COMPLETION_FRAMING latched. -/
theorem framingFaultsAndOffLanes : Obligations.FramingFaultsAndOffLanes := by
  intro r l k whole s hrow
  refine ⟨fun hoff => ?off, fun hon hpartial => ?partialWrite, fun hon hwhole hfault => ?wholeWrite⟩
  case off => exact completion_passed hrow (takeCompletion_of_off whole hoff) (.refl s) (.refl s)
  case partialWrite =>
    subst hpartial
    exact completion_passed hrow (takeCompletion_of_partial hon) (latch_linkKept _) (latch_partKept _)
  case wholeWrite =>
    subst hwhole
    exact completion_noted hrow
      (takeCompletion_of_framing hon (hfault.imp completionOwner_eq_true completionOutcome_eq_none_iff.2))

end Sys2Proof.Machine
end

section
/-! PROOFS. Partial record writes and processor-side writes to a ring (R145, R147): which requests they are, and that
both reach memory as they are. -/

namespace Sys2Proof.Machine

open Sys2Proof

/-! ### Whole requests (R145) -/

theorem isWhole_iff (r : Request) (off words : Nat) :
    isWhole r off words = true ↔ r.enables = List.replicate words 0xF ∧ off % (4 * words) = 0 := by
  have henables : r.enables = List.replicate words 0xF ↔ r.enables.length = words ∧ r.enables.all (· == 0xF) = true := by
    simp [List.eq_replicate_iff]
  rw [henables]
  simp [isWhole, and_assoc, and_comm]

/-! ### Which requests the Window Decoder takes for partial writes (R146, R147) -/

section Routes

variable {s : State} {r : Request} {b : Word} {off : Nat} {l : LaneId} {k : Slot}

theorem classify_of_windowOffset (hbase : s.base = some b) (hoff : windowOffset b r.addr = some off) :
    classify s r = routeInWindow (radioOf s r.source) r off := by
  simp [classify, hbase, hoff]

/-- A request that is more than passed on finds the part out of reset and its first word in the window (R142, R143). -/
theorem exists_route_of_classify_ne_passThrough (h : classify s r ≠ .passThrough) :
    ∃ b off, s.base = some b ∧ windowOffset b r.addr = some off := by
  cases hbase : s.base with
  | none => exact absurd (by simp [classify, hbase]) h
  | some b =>
    cases hoff : windowOffset b r.addr with
    | none => exact absurd (by simp [classify, hbase, hoff]) h
    | some off => exact ⟨b, off, rfl, hoff⟩

/-- A radio's request passes or reaches its own ring, whole or not (R146). -/
theorem routeInWindow_radio_ne_partialWrite : routeInWindow (some l) r off ≠ .partialWrite := by
  simp only [routeInWindow]
  split
  · split <;> simp
  · split <;> simp
  · simp
  · contradiction
  · contradiction

theorem routeInWindow_processor_read (hkind : r.kind = .read) : routeInWindow none r off = .passThrough := by
  simp [routeInWindow, hkind]

theorem routeInWindow_processor_write (hkind : r.kind = .write) :
    routeInWindow none r off =
      if isRecordRegion (regionAt off) then
        if isWhole r off (recordWords (regionAt off)) then recordEvent r (regionAt off) else .partialWrite
      else .passThrough := by
  simp [routeInWindow, hkind]

/-- A whole write of a record region is a row of that region's owner. -/
theorem recordEvent_ne_partialWrite (region : Region) : recordEvent r region ≠ .partialWrite := by
  cases region with
  | globalControl | laneControl | probeBlock | postSlot | stationRecord => simp only [recordEvent]; split <;> simp
  | ring | unnamed => simp [recordEvent]

theorem routeInWindow_eq_partialWrite_iff {radio : Option LaneId} :
    routeInWindow radio r off = .partialWrite ↔
      radio = none ∧ r.kind = .write ∧ isRecordRegion (regionAt off) = true
        ∧ isWhole r off (recordWords (regionAt off)) = false := by
  cases radio with
  | some l => simp [routeInWindow_radio_ne_partialWrite]
  | none =>
    cases hkind : r.kind with
    | read => simp [routeInWindow_processor_read hkind]
    | write =>
      rw [routeInWindow_processor_write hkind]
      cases isRecordRegion (regionAt off) with
      | false => simp
      | true => cases isWhole r off (recordWords (regionAt off)) <;> simp [recordEvent_ne_partialWrite]

theorem classify_eq_partialWrite_iff : classify s r = .partialWrite ↔
    ∃ b off, s.base = some b ∧ windowOffset b r.addr = some off ∧ radioOf s r.source = none ∧ r.kind = .write
      ∧ isRecordRegion (regionAt off) = true ∧ isWhole r off (recordWords (regionAt off)) = false := by
  constructor
  · intro hrow
    obtain ⟨b, off, hbase, hoff⟩ := exists_route_of_classify_ne_passThrough (s := s) (r := r) (by simp [hrow])
    rw [classify_of_windowOffset hbase hoff] at hrow
    exact ⟨b, off, hbase, hoff, routeInWindow_eq_partialWrite_iff.1 hrow⟩
  · rintro ⟨b, off, hbase, hoff, hroute⟩
    rw [classify_of_windowOffset hbase hoff]
    exact routeInWindow_eq_partialWrite_iff.2 hroute

/-- To the processor side a ring is no record region (R144, R146). -/
theorem classify_processor_write_ring (hbase : s.base = some b) (hoff : windowOffset b r.addr = some off)
    (hsource : radioOf s r.source = none) (hkind : r.kind = .write) (hring : regionAt off = .ring l k) :
    classify s r = .passThrough := by
  rw [classify_of_windowOffset hbase hoff, hsource, routeInWindow_processor_write hkind, hring]
  rfl

/-! ### What they do -/

theorem partialWrite_passed (hrow : classify s r = .partialWrite) :
    ∃ t, exec (.partialWrite r) s = .next t ∧ Passed r s t ∧ PartKept s t
      ∧ t.latched = s.latched ||| Cause.partialWrite.mask := by
  refine ⟨takeRequest r s, exec_partialWrite r s, ?_⟩
  rw [takeRequest_partialWrite r s hrow]
  exact ⟨passed_forward r (latch_linkKept .partialWrite), latch_partKept .partialWrite, rfl⟩

theorem passThrough_passed (hrow : classify s r = .passThrough) :
    ∃ t, exec (.passThrough r) s = .next t ∧ Passed r s t ∧ PartKept s t ∧ t.latched = s.latched := by
  refine ⟨takeRequest r s, exec_passThrough r s, ?_⟩
  rw [takeRequest_passThrough r s hrow]
  exact ⟨passed_forward r (.refl s), .refl s, rfl⟩

end Routes

/-! ### The statement -/

/-- Settles O8: a partial write is the one processor-side write that the Window Decoder neither hands to an owner nor
passes, and its branch latches before it forwards; a ring is no record region, so a write to it only forwards. -/
theorem partialWritesPass : Obligations.PartialWritesPass := by
  refine ⟨isWhole_iff, fun s r => ⟨classify_eq_partialWrite_iff, partialWrite_passed⟩, ?ring⟩
  case ring =>
    intro s r b off l k hbase hoff hsource hkind hring
    have hrow : classify s r = .passThrough := classify_processor_write_ring hbase hoff hsource hkind hring
    exact ⟨hrow, passThrough_passed hrow⟩

end Sys2Proof.Machine
end

section
/-! PROOFS. Refused probes (R160): which whole writes of the probe block are refused, and what the refusal does. -/

namespace Sys2Proof.Machine

open Sys2Proof

/-! ### Which probe a write asks for (section 10.6) -/

section Kinds

variable {r : Request}

/-- The three grounds of R160: a kind that is none of the four, or an argument beyond the stations or the lanes. -/
theorem probeKind_eq_bad_iff : probeKind r = .bad ↔
    bits (reqWord r 0) 3 0 = 0 ∨ 4 < bits (reqWord r 0) 3 0
      ∨ bits (reqWord r 0) 3 0 = 1 ∧ 511 < bits (reqWord r 0) 27 16
      ∨ bits (reqWord r 0) 3 0 = 2 ∧ 1 < bits (reqWord r 0) 27 16 := by
  simp only [probeKind]
  split
  case h_1 hstation => split <;> simp [hstation] <;> omega
  case h_2 hlane =>
    split
    · next harg => simp [hlane, harg]
    · split <;> simp [hlane] <;> omega
  case h_3 hpool => simp [hpool]
  case h_4 hattention => simp [hattention]
  case h_5 hstation hlane hpool hattention =>
    have hother : bits (reqWord r 0) 3 0 = 0 ∨ 4 < bits (reqWord r 0) 3 0 := by
      simp only [imp_false] at hstation hlane hpool hattention
      omega
    exact iff_of_true rfl (or_assoc.1 (.inl hother))

theorem recordEvent_probeBlock_eq_badProbe_iff : recordEvent r .probeBlock = .badProbe ↔ probeKind r = .bad := by
  cases hkind : probeKind r <;> simp [recordEvent, hkind]

end Kinds

/-! ### Whole writes of the probe block -/

section ProbeWrites

variable {s : State} {r : Request} {b : Word} {off : Nat}

theorem windowOffset_eq_some (hoff : off < 65536) (haddr : r.addr.toNat = b.toNat + off) :
    windowOffset b r.addr = some off := by
  have hwindow : b.toNat ≤ r.addr.toNat ∧ r.addr.toNat ≤ b.toNat + 65535 := by omega
  rw [windowOffset, if_pos hwindow]
  congr 1
  omega

/-- A processor-side write that is whole for the record region it lies in reaches that region's owner (R146). -/
theorem classify_whole_processor_write (hbase : s.base = some b) (hoff : windowOffset b r.addr = some off)
    (hsource : radioOf s r.source = none) (hkind : r.kind = .write) (hregion : isRecordRegion (regionAt off) = true)
    (hwhole : isWhole r off (recordWords (regionAt off)) = true) : classify s r = recordEvent r (regionAt off) := by
  rw [classify_of_windowOffset hbase hoff, hsource, routeInWindow_processor_write hkind, if_pos hregion, if_pos hwhole]

theorem classify_whole_probe_write (hbase : s.base = some b) (hsource : radioOf s r.source = none)
    (hkind : r.kind = .write) (henables : r.enables = List.replicate 8 0xF) (haddr : r.addr.toNat = b.toNat + 0x100) :
    classify s r = recordEvent r .probeBlock :=
  classify_whole_processor_write hbase (windowOffset_eq_some (by decide) haddr) hsource hkind rfl
    ((isWhole_iff r 0x100 8).2 ⟨henables, rfl⟩)

/-- The refusal reports BAD_PROBE with no snapshot and latches before it forwards (R160). -/
theorem badProbe_passed (hrow : classify s r = .badProbe) :
    ∃ t, exec (.badProbe r) s = .next t ∧ Passed (replaceSnapshot r [13, 0, 0, 0, 0, 0, 0]) s t ∧ PartKept s t
      ∧ t.latched = s.latched ||| Cause.recordRefused.mask := by
  refine ⟨takeRequest r s, exec_badProbe r s, ?_⟩
  rw [takeRequest_badProbe r s hrow]
  exact ⟨passed_forward _ (latch_linkKept .recordRefused), latch_partKept .recordRefused, rfl⟩

end ProbeWrites

/-! ### The statement -/

/-- Settles O42: the owner of a whole probe write is chosen by its kind and argument alone, and the refused ones latch
and forward. -/
theorem badProbeRefused : Obligations.BadProbeRefused := by
  intro r s b hbase hsource hkind henables haddr
  refine ⟨?refusedExactlyFor, badProbe_passed⟩
  case refusedExactlyFor =>
    rw [classify_whole_probe_write hbase hsource hkind henables haddr]
    exact recordEvent_probeBlock_eq_badProbe_iff.trans probeKind_eq_bad_iff

end Sys2Proof.Machine
end

section
/-! PROOFS. The fields of the four notes and of a grant (R103, R167), and the signed credit view that a MATCHED note
carries (R60). -/

namespace Sys2Proof.Machine

open Sys2Proof

/-! ### The credit view (R60) -/

section CreditView

variable {credit : Int}

theorem creditView_of_nonneg (h : 0 ≤ credit) : creditView credit = min (credit / 4) 32767 := by
  rw [creditView, Int.tdiv_eq_ediv_of_nonneg h]
  omega

/-- A debt is divided as its amount is, so its remainder too is dropped toward zero. -/
theorem creditView_of_nonpos (h : credit ≤ 0) : creditView credit = max (-32768) (-(-credit / 4)) := by
  have hdiv : credit.tdiv 4 = -(-credit / 4) := by
    rw [← Int.tdiv_eq_ediv_of_nonneg (by omega), Int.neg_tdiv, neg_neg]
  rw [creditView, hdiv]
  omega

/-- The view fits 16 signed bits, so these bits give it back. -/
theorem toInt_ofInt_creditView (credit : Int) : (BitVec.ofInt 16 (creditView credit)).toInt = creditView credit :=
  BitVec.toInt_ofInt_eq_self (by decide) (by simp only [creditView]; omega) (by simp only [creditView]; omega)

end CreditView

/-! ### The notes (R167) -/

section Notes

variable (n : StationId) (seq : BitVec 8) (credit : Int) (floor : Bool)

/-- The fields of a MATCHED note fit a word together, so none is cut off. -/
theorem toNat_matchedNote :
    (matchedNote n seq credit floor).toNat =
      2 ^ 31 + floor.toNat * 2 ^ 30 + n.val * 2 ^ 21 + seq.toNat % 32 * 2 ^ 16
        + (BitVec.ofInt 16 (creditView credit)).toNat := by
  have hfloor := floor.toNat_le
  rw [matchedNote, wordOf, BitVec.toNat_ofNat]
  omega

theorem matchedNote_form : bits (matchedNote n seq credit floor) 31 31 = 1 := by
  have hfloor := floor.toNat_le
  rw [bits, toNat_matchedNote]
  omega

theorem matchedNote_floor : bits (matchedNote n seq credit floor) 30 30 = floor.toNat := by
  have hfloor := floor.toNat_le
  rw [bits, toNat_matchedNote]
  omega

theorem matchedNote_station : bits (matchedNote n seq credit floor) 29 21 = n.val := by
  rw [bits, toNat_matchedNote]
  omega

theorem matchedNote_seq : bits (matchedNote n seq credit floor) 20 16 = seq.toNat % 32 := by
  rw [bits, toNat_matchedNote]
  omega

/-- The low 16 bits of a MATCHED note, read as signed, are the credit view. -/
theorem matchedNote_view : ((matchedNote n seq credit floor).extractLsb' 0 16).toInt = creditView credit := by
  have hlow : (matchedNote n seq credit floor).extractLsb' 0 16 = BitVec.ofInt 16 (creditView credit) := by
    apply BitVec.eq_of_toNat_eq
    rw [BitVec.extractLsb'_toNat, toNat_matchedNote, Nat.shiftRight_zero]
    omega
  rw [hlow, toInt_ofInt_creditView]

theorem lateNote_fields :
    bits (lateNote n) 31 30 = 0 ∧ bits (lateNote n) 29 21 = n.val ∧ bits (lateNote n) 20 16 = 1
    ∧ bits (lateNote n) 15 0 = 0 := by
  simp only [lateNote, bits_wordOf]
  omega

end Notes

/-! ### The words of a grant (R103) -/

section GrantWords

variable {g : Grant} {w0 w1 w2 w3 : Word}

/-- Word 0 holds the sequence and the station, with the valid bit on top. -/
theorem grantWords_first (h : grantWords g = [w0, w1, w2, w3]) :
    bits w0 11 0 = 0 ∧ bits w0 19 12 = g.seq.toNat ∧ bits w0 28 20 = g.entry.owner.val ∧ bits w0 30 29 = 0
    ∧ bits w0 31 31 = 1 := by
  obtain ⟨rfl, -⟩ := List.cons.inj h
  simp only [bits_wordOf]
  omega

/-- Word 2 holds the frame length alone. -/
theorem grantWords_third (h : grantWords g = [w0, w1, w2, w3]) :
    bits w2 13 0 = g.entry.len % 16384 ∧ bits w2 31 14 = 0 := by
  simp only [grantWords, List.cons.injEq] at h
  obtain ⟨-, -, rfl, -⟩ := h
  simp only [bits_wordOf]
  omega

/-- Word 3 holds the estimate view, rounded up, with ESTIMATE_CLAMPED on top. -/
theorem grantWords_fourth (h : grantWords g = [w0, w1, w2, w3]) :
    bits w3 13 0 = (g.estimate + 3) / 4 % 16384 ∧ bits w3 30 14 = 0 ∧ bits w3 31 31 = g.clamped.toNat := by
  have hclamped := g.clamped.toNat_le
  simp only [grantWords, List.cons.injEq] at h
  obtain ⟨-, -, -, rfl, -⟩ := h
  simp only [bits_wordOf, estimateView]
  omega

end GrantWords

/-! ### The statement -/

/-- Settles O51: each note and each grant word is a sum of fields that do not overlap, and the view in a MATCHED note
is the quotient of the credit, or of the debt, up to the 16-bit bounds. -/
theorem noteAndGrantFields : Obligations.NoteAndGrantFields := by
  refine ⟨fun n seq credit floor => ?matched, lateNote_fields, rfl, rfl, fun g => ?grant⟩
  case matched =>
    refine ⟨matchedNote_form .., matchedNote_floor .., matchedNote_station .., matchedNote_seq .., ?view⟩
    rw [matchedNote_view]
    refine ⟨fun hlow => ?_, fun hhigh => ?_, fun hnonneg hbelow => ?_, fun habove hnonpos => ?_⟩
    · rw [creditView_of_nonpos (by omega)]
      omega
    · rw [creditView_of_nonneg (by omega)]
      omega
    · rw [creditView_of_nonneg hnonneg]
      omega
    · rw [creditView_of_nonpos hnonpos]
      omega
  case grant =>
    obtain ⟨hpad, hseq, howner, hgap, hvalid⟩ := grantWords_first (g := g) rfl
    obtain ⟨hlen, hzero⟩ := grantWords_third (g := g) rfl
    exact ⟨_, _, _, rfl, hpad, hseq, howner, hgap, hvalid, hlen, hzero, grantWords_fourth rfl⟩

end Sys2Proof.Machine
end

section
/-! PROOFS. What a command can do to the state, said once: every command but a power-on reset, the end of reset and an
ATTENTION probe takes the state through a run of the changes that `Change` lists, so that a promise about the state is
proved by one case for each change. -/

namespace Sys2Proof.Machine

open Sys2Proof

/-! ### The changes -/

/-- A grant leaves the issued list with its station's account settled, and a Retiring station may end with it
(R126, R127, R132). -/
def endGrant (l : LaneId) (g : Grant) (a : Account) (s : State) : State :=
  retireIfLast l g.entry.owner (releaseGrant l g (s.setAccount g.entry.owner a))

/-- An Active station without backlog leaves service: Absent where it has no issued grants, else Retiring (R15, R18). -/
def leaveService (n : StationId) (s : State) : State :=
  retireIfLast (s.entry n).shadow.lane n
    (s.setEntry n { s.entry n with lifecycle := .retiring, held := false, dozing := false })

/-- One change of the state. The hypotheses are what the command that makes it has checked. -/
inductive Change : State → State → Prop
  | link (s : State) (down : List Request) (outstanding : List Outstanding) (up : List Response) :
      Change s { s with down := down, outstanding := outstanding, up := up }
  | latch (s : State) (c : Cause) : Change s (s.latch c)
  | count (s : State) (k : BitVec 32) : Change s { s with count := k }
  | leastFree (s : State) : Change s { s with leastFree := s.freeCount }
  | settings (s : State) (r : Request) (h : globalRadioA r ≠ globalRadioB r) : Change s (takeGlobalSettings r s)
  | clear (s : State) : Change s (schedulerClear s)
  | lane (s : State) (l : LaneId) (y : Lane) (hs : y.staged = (s.lane l).staged) (hi : y.issued = (s.lane l).issued) :
      Change s (s.setLane l y)
  | refill (s : State) (l : LaneId) (g : Fin 32) : Change s (refillGroup l g s)
  | held (s : State) (n : StationId) (b : Bool) (h : (s.entry n).lifecycle = .active)
      (hs : b = true → stagedFor s n = none) : Change s (setHeld n b s)
  | dozing (s : State) (n : StationId) (b : Bool) (h : (s.entry n).lifecycle = .active)
      (hs : b = true → stagedFor s n = none ∧ (s.entry n).shadow.mode ≠ .group) : Change s (setDozing n b s)
  | unstage (s : State) (l : LaneId) (e : PoolEntry) (h : (s.lane l).staged = some e) :
      Change s (returnToHead e (clearStaged l s))
  | free (s : State) (n : StationId) (h : (s.entry n).lifecycle = .active) : Change s (freeBacklog n s)
  | leave (s : State) (n : StationId) (h : (s.entry n).lifecycle = .active) (hq : s.queue n = [])
      (hs : stagedFor s n = none) : Change s (leaveService n s)
  | activate (s : State) (n : StationId) (x : Shadow) (h : (s.entry n).lifecycle = .absent) (hx : x.accepted) :
      Change s (activateStation n x s)
  | rewrite (s : State) (n : StationId) (x : Shadow) (h : (s.entry n).lifecycle = .active) (hx : x.accepted)
      (hl : x.lane = (s.entry n).shadow.lane ∨ hasBacklog s n = false) : Change s (rewriteStation n x s)
  | append (s : State) (n : StationId) (r : Request) (h : (s.entry n).lifecycle = .active)
      (hb : backlog s n < (s.entry n).shadow.depthLimit) (hf : s.free ≠ []) : Change s (appendPost n r s)
  | stage (s : State) (l : LaneId) (n : StationId) (moved : Option ServiceClass) (h : Ready s l n)
      (hs : (s.lane l).staged = none) : Change s (stage l n moved s)
  | issue (s : State) (l : LaneId) (e : PoolEntry) (h : (s.lane l).staged = some e) : Change s (issueGrant l e s)
  | endGrant (s : State) (l : LaneId) (g : Grant) (a : Account) (h : (s.lane l).grantAt g.slot = some g)
      (hr : a.reservation = (s.account g.entry.owner).reservation - g.estimate)
      (hc : a.credit = (s.account g.entry.owner).credit
        ∨ Config.creditFloor ≤ a.credit ∧ a.credit ≤ ceilingAU (s.entry g.entry.owner).shadow) :
      Change s (endGrant l g a s)

/-- Changes of the state, one after another. -/
abbrev Changes : State → State → Prop := Relation.ReflTransGen Change

/-! ### The link and the latched causes -/

section Runs

variable {s t u : State}

theorem Changes.then (h : Changes s t) (hc : Change t u) : Changes s u := .tail h hc

theorem Changes.forward (h : Changes s t) (r : Request) : Changes s (t.forward r) := h.then (.link t _ _ _)

theorem Changes.send (h : Changes s t) (r : Request) (words : List Word) : Changes s (t.send r (some words)) :=
  h.then (.link t _ _ _)

theorem Changes.latch (h : Changes s t) (c : Cause) : Changes s (t.latch c) := h.then (.latch t c)

theorem Changes.latchIf (h : Changes s t) (b : Bool) (c : Cause) : Changes s (t.latchIf b c) := by
  cases b
  · exact h
  · exact h.latch c

/-- A change of one lane that keeps its staged slot and its issued list. -/
theorem Changes.setLane (h : Changes s t) (l : LaneId) (y : Lane) (hs : y.staged = (t.lane l).staged)
    (hi : y.issued = (t.lane l).issued) : Changes s (t.setLane l y) := h.then (.lane t l y hs hi)

end Runs

/-! ### Station records (chapter 1) -/

section Stations

variable (s : State) (n : StationId) (r : Request)

/-- The rate range of every accepting cell lies within 2..4800 (R3). -/
theorem clampRate_bounds (k : KindCode) (m : ModeCode) (rate : Nat) :
    2 ≤ clampRate k m rate ∧ clampRate k m rate ≤ 4800 := by
  cases m <;> cases k <;> simp only [clampRate, rateRange] <;> omega

theorem bits_lt (w : Word) (hi lo : Nat) : bits w hi lo < 2 ^ (hi + 1 - lo) := Nat.mod_lt _ (by positivity)

/-- A record of no refused cell gives a shadow as an accepted record must (section 1.1). -/
theorem shadow_accepted (h : isRefusedCell (readStationRecord r).kind (readStationRecord r).mode = false) :
    (readStationRecord r).shadow.accepted := by
  have hmode : (readStationRecord r).mode ≠ .invalid := by
    intro hinvalid
    simp [isRefusedCell, hinvalid] at h
  have hdepth : 1 ≤ clampDepth (readStationRecord r).depthLimit ∧ clampDepth (readStationRecord r).depthLimit ≤ 255 := by
    have hlt : (readStationRecord r).depthLimit < 256 := bits_lt _ 23 16
    unfold clampDepth
    split <;> omega
  obtain ⟨hlow, hhigh⟩ := clampRate_bounds (readStationRecord r).kind (readStationRecord r).mode (readStationRecord r).rate
  obtain ⟨hone, hmax⟩ := hdepth
  exact ⟨hlow, hhigh, hone, hmax, hmode⟩

theorem changes_refuseStation (code : ResultCode) : Changes s (refuseStation code r s) :=
  (Changes.latch .refl .recordRefused).forward _

theorem changes_takeStationRecord : Changes s (takeStationRecord n r s) := by
  unfold takeStationRecord
  cases hlife : (s.entry n).lifecycle with
  | retiring => exact changes_refuseStation s r _
  | absent =>
    dsimp only
    split
    · exact changes_refuseStation s r _
    · next hcell =>
      exact (Changes.then .refl (.activate s n _ hlife (shadow_accepted r (Bool.eq_false_iff.2 hcell)))).forward _
  | active =>
    dsimp only
    split
    · exact changes_refuseStation s r _
    · next hcell =>
      split
      · exact changes_refuseStation s r _
      · next hbusy =>
        have hlane : (readStationRecord r).shadow.lane = (s.entry n).shadow.lane ∨ hasBacklog s n = false := by
          rw [not_and_or, not_not, Bool.not_eq_true] at hbusy
          exact hbusy
        exact (Changes.then .refl
          (.rewrite s n _ hlife (shadow_accepted r (Bool.eq_false_iff.2 hcell)) hlane)).forward _

theorem stagedFor_freeBacklog : stagedFor (freeBacklog n s) n = none := by
  refine Option.eq_none_iff_forall_ne_some.2 fun e he => ?_
  obtain ⟨hstaged, howner⟩ := (stagedFor_eq_some _).1 he
  rw [freeBacklog_entry, freeBacklog_lane] at hstaged
  split at hstaged
  · simp at hstaged
  · next hno => exact hno ⟨rfl, Option.isSome_iff_exists.2 ⟨e, (stagedFor_eq_some s).2 ⟨hstaged, howner⟩⟩⟩

/-- A retirement is the backlog freed, after which the station leaves service (R15). -/
theorem retireStation_eq : retireStation n s = leaveService n (freeBacklog n s) := by
  simp [retireStation, leaveService]

theorem changes_takeRemoval : Changes s (takeRemoval n r s) := by
  unfold takeRemoval
  cases hlife : (s.entry n).lifecycle with
  | retiring => exact changes_refuseStation s r _
  | absent => exact Changes.forward .refl _
  | active =>
    dsimp only
    rw [retireStation_eq]
    refine Changes.forward ((Changes.then .refl (.free s n hlife)).then (.leave _ n ?_ ?_ ?_)) _
    · rw [freeBacklog_entry]
      exact hlife
    · exact freeBacklog_queue_self s n
    · exact stagedFor_freeBacklog s n

end Stations

/-! ### Post slots (chapter 2) -/

section Posts

variable (s : State) (n : StationId) (r : Request)

theorem changes_answerPost {t : State} (h : Changes s t) (code : ResultCode) : Changes s (answerPost code n r t) :=
  h.forward _

theorem changes_refusePost (code : ResultCode) : Changes s (refusePost code n r s) :=
  changes_answerPost s n r (Changes.latch .refl .postRefused) code

/-- A post slot command refused for the station's lifecycle, or accepted by an Active station (R34 to R38). -/
theorem changes_of_lifecycleCheck {t : State} (h : (s.entry n).lifecycle = .active → Changes s t) :
    Changes s (match lifecycleCheck s n with | some c => refusePost c n r s | none => t) := by
  cases hcheck : lifecycleCheck s n with
  | some c => exact changes_refusePost s n r c
  | none => exact h ((lifecycleCheck_eq_none_iff s n).1 hcheck)

theorem changes_takePost : Changes s (takePost n r s) := by
  unfold takePost
  cases hcheck : postCheck s n (postLen r) with
  | some c => exact changes_refusePost s n r c
  | none =>
    obtain ⟨hactive, -, hdepth, hfree⟩ := (postCheck_eq_none_iff s n _).1 hcheck
    refine changes_answerPost s n r (Changes.latchIf ?_ _ _) _
    have happend : Changes s (appendPost n r s) := Changes.then .refl (.append s n r hactive hdepth hfree)
    unfold wakeOnPost
    split
    · exact happend.then (.dozing _ n false hactive (by simp))
    · exact happend

theorem changes_takeFlush : Changes s (takeFlush n r s) :=
  changes_of_lifecycleCheck s n r fun hactive => changes_answerPost s n r (Changes.then .refl (.free s n hactive)) _

/-- The withdrawal to the queue head looks at the station's shadow alone, so a flag may be set before or after it. -/
theorem withdrawToHead_setEntry (x : StationEntry) (hx : x.shadow = (s.entry n).shadow) :
    withdrawToHead n (s.setEntry n x) = (withdrawToHead n s).setEntry n x := by
  have hstaged : stagedFor (s.setEntry n x) n = stagedFor s n := by simp [stagedFor, hx]
  unfold withdrawToHead
  rw [hstaged, setEntry_entry_self, hx]
  cases stagedFor s n with
  | none => rfl
  | some e => cases hl : (s.entry n).shadow.lane <;> rfl

theorem changes_withdrawToHead : Changes s (withdrawToHead n s) := by
  unfold withdrawToHead
  split
  · next e he => exact .single (.unstage s _ e ((stagedFor_eq_some s).1 he).1)
  · exact .refl

@[simp] theorem withdrawToHead_entry (m : StationId) : (withdrawToHead n s).entry m = s.entry m := by
  obtain ⟨e, -, h⟩ | ⟨-, h⟩ := withdrawToHead_cases s n <;> simp [h, clearStaged]

theorem stagedFor_withdrawToHead : stagedFor (withdrawToHead n s) n = none := by
  obtain ⟨e, -, h⟩ | ⟨hnone, h⟩ := withdrawToHead_cases s n
  · simp [h, stagedFor, clearStaged]
  · rw [h, hnone]

theorem changes_takeHold : Changes s (takeHold n r s) := by
  refine changes_of_lifecycleCheck s n r fun hactive => changes_answerPost s n r ?_ _
  have hcomm : withdrawToHead n (setHeld n true s) = setHeld n true (withdrawToHead n s) := by
    simp [setHeld, withdrawToHead_setEntry]
  rw [hcomm]
  exact (changes_withdrawToHead s n).then
    (.held _ n true (by simpa using hactive) fun _ => stagedFor_withdrawToHead s n)

theorem changes_takeDoze : Changes s (takeDoze n r s) := by
  refine changes_of_lifecycleCheck s n r fun hactive => ?_
  split
  · exact changes_refusePost s n r _
  · next hgroup =>
    have hcomm : withdrawToHead n (setDozing n true s) = setDozing n true (withdrawToHead n s) := by
      simp [setDozing, withdrawToHead_setEntry]
    rw [hcomm]
    exact changes_answerPost s n r ((changes_withdrawToHead s n).then
      (.dozing _ n true (by simpa using hactive) fun _ => ⟨stagedFor_withdrawToHead s n, by simpa using hgroup⟩)) _

theorem changes_takeRelease : Changes s (takeRelease n r s) :=
  changes_of_lifecycleCheck s n r fun hactive =>
    changes_answerPost s n r (Changes.then .refl (.held s n false hactive (by simp))) _

theorem changes_takeWake : Changes s (takeWake n r s) :=
  changes_of_lifecycleCheck s n r fun hactive =>
    changes_answerPost s n r (Changes.then .refl (.dozing s n false hactive (by simp))) _

end Posts

/-! ### Control records and probes (chapter 9) -/

section Control

variable (s : State) (l : LaneId) (r : Request)

theorem changes_takeGlobalControl : Changes s (takeGlobalControl r s) := by
  unfold takeGlobalControl
  split
  · exact (Changes.latch .refl .recordRefused).forward _
  · next hdiffer => exact (Changes.then .refl (.settings s r hdiffer)).forward _

theorem changes_takeSchedulerClear (hdiffer : globalRadioA r ≠ globalRadioB r) :
    Changes s (takeSchedulerClear r s) :=
  ((Changes.then .refl (.settings s r hdiffer)).then (.clear _)).forward _

section LaneParts

variable (x : Lane)

theorem startPhase_parts (p : ServiceClass) : (x.startPhase p).staged = x.staged ∧ (x.startPhase p).issued = x.issued := by
  cases p <;> exact ⟨rfl, rfl⟩

theorem changeMode_parts (m : PhaseMode) : (x.changeMode m).staged = x.staged ∧ (x.changeMode m).issued = x.issued := by
  unfold Lane.changeMode
  split
  · exact ⟨rfl, rfl⟩
  · cases m
    · exact startPhase_parts _ x.phase
    · exact ⟨rfl, rfl⟩
    · exact ⟨rfl, rfl⟩

theorem takeSettings_parts (q : LaneRecord) :
    (x.takeSettings q).staged = x.staged ∧ (x.takeSettings q).issued = x.issued := by
  unfold Lane.takeSettings
  cases x.laneState
  · exact ⟨rfl, rfl⟩
  · exact changeMode_parts _ _
  · exact changeMode_parts _ _

theorem afterVisit_parts : x.afterVisit.staged = x.staged ∧ x.afterVisit.issued = x.issued := by
  unfold Lane.afterVisit
  split
  · split <;> exact ⟨rfl, rfl⟩
  · exact ⟨rfl, rfl⟩

end LaneParts

theorem changes_takeLaneSettings : Changes s (takeLaneSettings l r s) :=
  Changes.setLane .refl l _ (takeSettings_parts ..).1 (takeSettings_parts ..).2

theorem changes_applyEnable : Changes s (applyEnable l r s) := by
  unfold applyEnable
  dsimp only
  split
  · refine Changes.setLane .refl l _ ?_ ?_ <;> rw [enable_eq]
  · exact .refl
  · refine Changes.setLane .refl l _ ?_ ?_ <;> rfl

theorem changes_takeLaneEnable : Changes s (takeLaneEnable l r s) :=
  Changes.forward ((changes_takeLaneSettings s l r).trans (changes_applyEnable _ l r)) _

theorem changes_withdrawLane : Changes s (withdrawLane l s) := by
  unfold withdrawLane
  split
  · next e he => exact .single (.unstage s l e he)
  · exact .refl

theorem changes_applyDisable : Changes s (applyDisable l s) := by
  unfold applyDisable
  dsimp only
  split
  · exact .refl
  · split
    · refine (changes_withdrawLane s l).setLane l _ ?_ ?_ <;> rfl
    · refine (changes_withdrawLane s l).setLane l _ ?_ ?_ <;> rfl
  · split
    · refine Changes.setLane .refl l _ ?_ ?_ <;> rfl
    · exact .refl

theorem changes_takeLaneDisable : Changes s (takeLaneDisable l r s) :=
  Changes.forward ((changes_takeLaneSettings s l r).trans (changes_applyDisable _ l)) _

theorem changes_takePoolProbe : Changes s (takePoolProbe r s) := (Changes.then .refl (.leastFree s)).forward _

end Control

/-! ### Rings (chapters 6 and 7) -/

section Rings

variable (s : State) (l : LaneId) (k : Slot) (r : Request)

theorem changes_readExpected : Changes s (readExpected l r s) := by
  unfold readExpected
  split
  · next e he =>
    split
    · exact (Changes.then .refl (.issue s l e he)).send _ _
    · exact Changes.send .refl _ _
  · exact Changes.send .refl _ _

theorem changes_takeRingRead (whole : Bool) : Changes s (takeRingRead l k whole r s) := by
  unfold takeRingRead
  dsimp only
  split
  · exact Changes.forward .refl _
  · exact (Changes.latch .refl _).forward _
  · exact (Changes.latch .refl _).forward _
  · split
    · exact changes_readExpected s l r
    · split
      · exact Changes.send .refl _ _
      · exact (Changes.latch .refl _).send _ _
  · split <;> exact Changes.send .refl _ _

theorem changes_drainIfEmpty : Changes s (drainIfEmpty l s) := by
  unfold drainIfEmpty
  split
  · exact Changes.setLane .refl l _ rfl rfl
  · exact .refl

theorem ceilingAU_nonneg (x : Shadow) : 0 ≤ ceilingAU x := by
  unfold ceilingAU
  positivity

theorem creditFloor_neg : Config.creditFloor < 0 := by decide

/-- A corrected credit lies between the floor and the ceiling (R51, R52). -/
theorem correct_bounds (a : Account) (x : Shadow) (estimate airtime : Nat) (outcome : FrameOutcome) :
    Config.creditFloor ≤ (a.correct (ceilingAU x) estimate airtime outcome).credit
      ∧ (a.correct (ceilingAU x) estimate airtime outcome).credit ≤ ceilingAU x := by
  have hceiling : Config.creditFloor ≤ ceilingAU x := creditFloor_neg.le.trans (ceilingAU_nonneg x)
  exact ⟨le_max_right _ _, max_le (min_le_right _ _) hceiling⟩

/-- The cause a correction latches may be latched before the grant ends, since nothing of the part looks at it. -/
theorem endGrant_latchIf (g : Grant) (a : Account) (b : Bool) (c : Cause) :
    retireIfLast l g.entry.owner (releaseGrant l g ((s.setAccount g.entry.owner a).latchIf b c))
      = endGrant l g a (s.latchIf b c) := by
  cases b <;> cases l <;> rfl

theorem changes_matchedCompletion (g : Grant) (outcome : FrameOutcome) (h : (s.lane l).grantAt g.slot = some g) :
    Changes s (matchedCompletion l g outcome r s) := by
  unfold matchedCompletion correctStation
  dsimp only
  rw [endGrant_latchIf]
  refine Changes.forward (.trans ?_ (changes_drainIfEmpty _ l)) _
  refine (Changes.latchIf .refl _ _).then (.endGrant _ l g _ (by simpa using h) ?_ (.inr ?_))
  · rw [latchIf_account]; rfl
  · rw [latchIf_entry]; exact correct_bounds ..

theorem changes_answerCompletion (note : Word) (c : Cause) : Changes s (answerCompletion r note (s.latch c)) :=
  (Changes.latch .refl c).forward _

theorem changes_classifyCompletion (outcome : FrameOutcome) : Changes s (classifyCompletion l k outcome r s) := by
  unfold classifyCompletion
  split
  · next g hfind =>
    split
    · obtain ⟨-, rfl⟩ := grantAt_some hfind
      exact changes_matchedCompletion s l r g outcome hfind
    · exact changes_answerCompletion s r _ _
  · split
    · split <;> exact changes_answerCompletion s r _ _
    · exact changes_answerCompletion s r _ _

theorem changes_takeCompletion (whole : Bool) : Changes s (takeCompletion l k whole r s) := by
  unfold takeCompletion
  split
  · exact Changes.forward .refl _
  · split
    · exact (Changes.latch .refl _).forward _
    · split
      · exact changes_classifyCompletion s l k r _
      · exact changes_answerCompletion s r _ _

end Rings

/-! ### Requests on the link (chapter 8) -/

section Requests

variable (s : State) (r : Request)

/-- What the Window Decoder makes of a request, by who may ask for it: no owner, a radio's own ring, or the owner of a
record region (R146). -/
theorem routeInWindow_cases (radio : Option LaneId) (off : Nat) :
    routeInWindow radio r off = .passThrough ∨ routeInWindow radio r off = .partialWrite
      ∨ (∃ l k whole, routeInWindow radio r off = .ringRead l k whole ∨ routeInWindow radio r off = .completion l k whole)
      ∨ ∃ region, routeInWindow radio r off = recordEvent r region := by
  cases radio with
  | some l =>
    simp only [routeInWindow]
    split
    · split
      · exact .inr (.inr (.inl ⟨_, _, _, .inl rfl⟩))
      · exact .inl rfl
    · split
      · exact .inr (.inr (.inl ⟨_, _, _, .inr rfl⟩))
      · exact .inl rfl
    · exact .inl rfl
    · contradiction
    · contradiction
  | none =>
    cases hkind : r.kind with
    | read => exact .inl (routeInWindow_processor_read hkind)
    | write =>
      rw [routeInWindow_processor_write hkind]
      split
      · split
        · exact .inr (.inr (.inr ⟨_, rfl⟩))
        · exact .inr (.inl rfl)
      · exact .inl rfl

theorem classify_cases : classify s r = .passThrough ∨ classify s r = .partialWrite
    ∨ (∃ l k whole, classify s r = .ringRead l k whole ∨ classify s r = .completion l k whole)
    ∨ ∃ region, classify s r = recordEvent r region := by
  by_cases hpass : classify s r = .passThrough
  · exact .inl hpass
  · obtain ⟨b, off, hbase, hoff⟩ := exists_route_of_classify_ne_passThrough hpass
    rw [classify_of_windowOffset hbase hoff]
    exact routeInWindow_cases r _ off

/-- A scheduler clear names two sources (R151, R153). -/
theorem recordEvent_eq_schedulerClear {region : Region} (h : recordEvent r region = .schedulerClear) :
    globalRadioA r ≠ globalRadioB r := by
  cases region with
  | globalControl =>
    simp only [recordEvent] at h
    split at h
    · next hclear => simpa using (Bool.and_eq_true_iff.1 hclear).2
    · cases h
  | laneControl | probeBlock | postSlot | stationRecord => simp only [recordEvent] at h; split at h <;> cases h
  | ring | unnamed => cases h

theorem classify_eq_schedulerClear (h : classify s r = .schedulerClear) : globalRadioA r ≠ globalRadioB r := by
  obtain hrow | hrow | ⟨l, k, whole, hrow | hrow⟩ | ⟨region, hrow⟩ := classify_cases s r
  · cases h.symm.trans hrow
  · cases h.symm.trans hrow
  · cases h.symm.trans hrow
  · cases h.symm.trans hrow
  · exact recordEvent_eq_schedulerClear r (hrow.symm.trans h)

theorem changes_takeRequest (h : classify s r ≠ .attentionProbe) : Changes s (takeRequest r s) := by
  cases hrow : classify s r with
  | passThrough => rw [takeRequest_passThrough r s hrow]; exact Changes.forward .refl _
  | partialWrite => rw [takeRequest_partialWrite r s hrow]; exact (Changes.latch .refl _).forward _
  | stationRecord n => rw [takeRequest_stationRecord r s n hrow]; exact changes_takeStationRecord s n r
  | removal n => rw [takeRequest_removal r s n hrow]; exact changes_takeRemoval s n r
  | post n => rw [takeRequest_post r s n hrow]; exact changes_takePost s n r
  | flush n => rw [takeRequest_flush r s n hrow]; exact changes_takeFlush s n r
  | hold n => rw [takeRequest_hold r s n hrow]; exact changes_takeHold s n r
  | release n => rw [takeRequest_release r s n hrow]; exact changes_takeRelease s n r
  | doze n => rw [takeRequest_doze r s n hrow]; exact changes_takeDoze s n r
  | wake n => rw [takeRequest_wake r s n hrow]; exact changes_takeWake s n r
  | badCommand n => rw [takeRequest_badCommand r s n hrow]; exact changes_refusePost s n r _
  | globalControl => rw [takeRequest_globalControl r s hrow]; exact changes_takeGlobalControl s r
  | schedulerClear =>
    rw [takeRequest_schedulerClear r s hrow]
    exact changes_takeSchedulerClear s r (classify_eq_schedulerClear s r hrow)
  | laneEnable l => rw [takeRequest_laneEnable r s l hrow]; exact changes_takeLaneEnable s l r
  | laneDisable l => rw [takeRequest_laneDisable r s l hrow]; exact changes_takeLaneDisable s l r
  | stationProbe n => rw [takeRequest_stationProbe r s n hrow]; exact Changes.forward .refl _
  | laneProbe l => rw [takeRequest_laneProbe r s l hrow]; exact Changes.forward .refl _
  | poolProbe => rw [takeRequest_poolProbe r s hrow]; exact changes_takePoolProbe s r
  | attentionProbe => exact absurd hrow h
  | badProbe => rw [takeRequest_badProbe r s hrow]; exact (Changes.latch .refl _).forward _
  | ringRead l k whole => rw [takeRequest_ringRead r s l k whole hrow]; exact changes_takeRingRead s l k r whole
  | completion l k whole => rw [takeRequest_completion r s l k whole hrow]; exact changes_takeCompletion s l k r whole

end Requests

/-! ### The timebase and the Grant Selector (chapters 4, 5 and 7) -/

section Events

variable (s : State) (l : LaneId) (k : Slot)

/-- The record of an expiry and its cause may be written before the grant ends, since its end looks at neither. -/
theorem settleExpiry_eq_endGrant (g : Grant) (a : Account)
    (ha : a = { s.account g.entry.owner with reservation := (s.account g.entry.owner).reservation - g.estimate }) :
    retireIfLast l g.entry.owner (settleExpiry s l g) = endGrant l g a ((s.setLane l { s.lane l with
      expired := (s.lane l).expired.set g.slot (some { addr := g.entry.addr, station := g.entry.owner }) }).latch
        .grantExpired) := by
  subst ha
  cases l <;> rfl

theorem changes_expireGrant (g : Grant) (h : (s.lane l).grantAt g.slot = some g) : Changes s (expireGrant l g s) := by
  rw [expireGrant_eq, settleExpiry_eq_endGrant s l g _ rfl]
  refine .trans ?_ (changes_drainIfEmpty _ l)
  refine ((Changes.setLane .refl l _ ?_ ?_).latch _).then (.endGrant _ l g _ ?_ ?_ (.inl ?_))
  · rfl
  · rfl
  · rw [latch_lane, setLane_lane_self]; exact h
  · rw [latch_account, setLane_account]
  · rw [latch_account, setLane_account]

theorem changes_takeGrantExpiry : Changes s (takeGrantExpiry l k s) := by
  unfold takeGrantExpiry
  split
  · next g hfind =>
    obtain ⟨-, rfl⟩ := grantAt_some hfind
    split
    · exact changes_expireGrant s l g hfind
    · exact .refl
  · exact .refl

theorem changes_takeRefillExpiry : Changes s (takeRefillExpiry l s) := by
  unfold takeRefillExpiry
  dsimp only
  split
  · split
    · exact Changes.setLane .refl l _ rfl rfl
    · split
      · exact Changes.setLane .refl l _ rfl rfl
      · refine (Changes.setLane .refl l _ ?_ ?_).latch _ <;> rfl
  · exact .refl

theorem changes_takeSweepVisit : Changes s (takeSweepVisit l s) := by
  unfold takeSweepVisit
  dsimp only
  split
  · refine (Changes.then .refl (.refill s l _)).setLane l _ ?_ ?_
    · rw [refillGroup_lane]; exact (afterVisit_parts _).1
    · rw [refillGroup_lane]; exact (afterVisit_parts _).2
  · exact .refl

theorem changes_takePhaseExpiry : Changes s (takePhaseExpiry l s) := by
  unfold takePhaseExpiry
  dsimp only
  split
  · exact Changes.setLane .refl l _ (startPhase_parts ..).1 (startPhase_parts ..).2
  · exact .refl

theorem changes_foldl_takeGrantExpiry (ks : List Slot) : Changes s (ks.foldl (fun t k => takeGrantExpiry l k t) s) := by
  induction ks generalizing s with
  | nil => exact .refl
  | cons k ks ih => exact (changes_takeGrantExpiry s l k).trans (ih _)

theorem changes_takeDue : Changes s (takeDue l s) :=
  (((changes_foldl_takeGrantExpiry s l _).trans (changes_takeSweepVisit _ l)).trans
    (changes_takeRefillExpiry _ l)).trans (changes_takePhaseExpiry _ l)

/-- A tick is one change of each lane and of the count (R65). -/
theorem changes_advanceCount : Changes s (advanceCount s) :=
  ((Changes.setLane .refl .a (s.laneA.tick) rfl rfl).setLane .b (s.laneB.tick) rfl rfl).then (.count _ (s.count + 1))

theorem changes_takeTick : Changes s (takeTick s) := by
  unfold takeTick
  split
  · exact .refl
  · exact ((changes_takeDue s .a).trans (changes_takeDue _ .b)).trans (changes_advanceCount _)

variable {s l}

theorem ready_of_scan {c : ServiceClass} {p n : StationId} (h : scan s l c p = some n) : Ready s l n :=
  ((candidate_iff s l c n).1 (List.find?_some h)).1

theorem ready_of_fallback {n : StationId} (h : fallback s l = some n) : Ready s l n := by
  have hmem := (foldl_betterOf_eq_some h).resolve_left (by simp)
  exact (ready_iff s l n).1 (List.mem_filter.1 hmem).2

/-- Each step of a staging decision finds a ready station (R85, R87, R89). -/
theorem ready_of_winner {n : StationId} {moved : Option ServiceClass} (h : winner s l = some (n, moved)) : Ready s l n := by
  unfold winner at h
  dsimp only at h
  split at h
  · next hscan => cases h; exact ready_of_scan hscan
  · split at h
    · next hscan => cases h; exact ready_of_scan hscan
    · obtain ⟨m, hfallback, hm⟩ := Option.map_eq_some_iff.1 h
      cases hm
      exact ready_of_fallback hfallback

variable (s l)

theorem changes_takeStaging : Changes s (takeStaging l s) := by
  unfold takeStaging
  split
  · next hslot =>
    split
    · next n moved hwin => exact .single (.stage s l n moved (ready_of_winner hwin) hslot.2)
    · exact .refl
  · exact .refl

theorem changes_takeResponse (status : Status) (words : List Word) (i : Nat) :
    Changes s (takeResponse i status words s) := by
  unfold takeResponse
  split
  · exact .single (.link s s.down _ _)
  · exact .refl

end Events

/-! ### Every command -/

section Commands

variable {c : Instr} {s t : State}

/-- The commands that are requests, and those that are events of the part alone. -/
theorem exec_cases (h : exec c s = .next t) :
    (c = .powerOnReset ∧ t = takePowerOnReset s) ∨ (∃ wbase, c = .resetEnd wbase ∧ t = takeResetEnd wbase s)
      ∨ (∃ r, requestOf c = some r ∧ classify s r = .attentionProbe ∧ t = takeAttentionProbe r s) ∨ Changes s t := by
  cases hreq : requestOf c with
  | some r =>
    rw [exec_of_requestOf r s c hreq] at h
    cases h
    by_cases hrow : classify s r = .attentionProbe
    · exact .inr (.inr (.inl ⟨r, rfl, hrow, takeRequest_attentionProbe r s hrow⟩))
    · exact .inr (.inr (.inr (changes_takeRequest s r hrow)))
  | none =>
    cases c
    case powerOnReset => cases h; exact .inl ⟨rfl, rfl⟩
    case resetEnd wbase => cases h; exact .inr (.inl ⟨wbase, rfl, rfl⟩)
    case timebaseTick => cases h; exact .inr (.inr (.inr (changes_takeTick s)))
    case refillExpiry l => cases h; exact .inr (.inr (.inr (changes_takeRefillExpiry s l)))
    case sweepVisit l => cases h; exact .inr (.inr (.inr (changes_takeSweepVisit s l)))
    case phaseExpiry l => cases h; exact .inr (.inr (.inr (changes_takePhaseExpiry s l)))
    case grantExpiry l k => cases h; exact .inr (.inr (.inr (changes_takeGrantExpiry s l k)))
    case stagingDecision l => cases h; exact .inr (.inr (.inr (changes_takeStaging s l)))
    case readResponse i status words => cases h; exact .inr (.inr (.inr (changes_takeResponse s status words i)))
    all_goals cases hreq

/-- What every change keeps, a run of changes keeps. -/
theorem Changes.keeps {P : State → Prop} (hchange : ∀ s t, Change s t → P s → P t) (h : Changes s t) (hs : P s) : P t := by
  induction h with
  | refl => exact hs
  | tail _ hlast ih => exact hchange _ _ hlast ih

/-- A promise about the blocks of the part is kept by every step, where it holds of the part in reset and every change
keeps it: the window base, the latched causes and the queue of commands are no part of it. -/
theorem step_keeps {P : State → Prop} (hreset : ∀ s, P (takePowerOnReset s)) (hchange : ∀ s t, Change s t → P s → P t)
    (haside : ∀ (s : State) (base : Option Word) (latched : BitVec 11) (pending : List Instr),
      P s → P { s with base := base, latched := latched, pending := pending })
    (hs : P s) (h : step s = .next t) : P t := by
  unfold step at h
  split at h
  · cases h; exact hs
  · next c rest _ =>
    have hrest : P { s with pending := rest } := haside s s.base s.latched rest hs
    obtain ⟨-, rfl⟩ | ⟨wbase, -, rfl⟩ | ⟨r, -, -, rfl⟩ | hrun := exec_cases h
    · exact hreset _
    · unfold takeResetEnd
      split
      · exact haside s _ s.latched rest hs
      · exact hrest
    · exact hchange _ _ (.link _ _ _ _) (haside s s.base 0 rest hs)
    · exact hrun.keeps hchange hrest

end Commands

end Sys2Proof.Machine
end

section
/-! PROOFS. The promises about the pool (R23, R163) and the credits (R45), each by one case for every change. -/

namespace Sys2Proof.Machine

open Sys2Proof

/-! ### Power-on reset and the end of service -/

section Common

variable (s : State) (l : LaneId) (n m : StationId)

@[simp] theorem takePowerOnReset_lane : (takePowerOnReset s).lane l = Lane.reset := by cases l <;> rfl
@[simp] theorem takePowerOnReset_entry : (takePowerOnReset s).entry n = StationEntry.reset := reset_entry n
@[simp] theorem takePowerOnReset_account : (takePowerOnReset s).account n = Account.reset := reset_account n
@[simp] theorem takePowerOnReset_queue : (takePowerOnReset s).queue n = [] := reset_queue n

@[simp] theorem retireIfLast_lane (k : LaneId) : (retireIfLast l n s).lane k = s.lane k := steps_retireIfLast s l n k

@[simp] theorem retireIfLast_queue : (retireIfLast l n s).queue m = s.queue m := by
  obtain ⟨-, -, h⟩ | ⟨-, h⟩ := retireIfLast_cases s l n <;> simp [h]

@[simp] theorem retireIfLast_free : (retireIfLast l n s).free = s.free := by
  obtain ⟨-, -, h⟩ | ⟨-, h⟩ := retireIfLast_cases s l n <;> rw [h]; rfl

@[simp] theorem retireIfLast_leastFree : (retireIfLast l n s).leastFree = s.leastFree := by
  obtain ⟨-, -, h⟩ | ⟨-, h⟩ := retireIfLast_cases s l n <;> rw [h]; rfl

/-- A transition to Absent keeps the shadow (R18). -/
@[simp] theorem retireIfLast_shadow : ((retireIfLast l n s).entry m).shadow = (s.entry m).shadow := by
  obtain ⟨-, -, h⟩ | ⟨-, h⟩ := retireIfLast_cases s l n <;> rw [h]
  rw [becomeAbsent_entry]
  split <;> rfl

/-- A transition to Absent sets the credit to 0 (R18). -/
theorem retireIfLast_credit :
    ((retireIfLast l n s).account m).credit = (s.account m).credit ∨ ((retireIfLast l n s).account m).credit = 0 := by
  obtain ⟨-, -, h⟩ | ⟨-, h⟩ := retireIfLast_cases s l n <;> rw [h]
  · rw [becomeAbsent_account]
    split
    · exact .inr rfl
    · exact .inl rfl
  · exact .inl rfl

end Common

/-! ### Credits (R45) -/

/-- A credit lies between the floor and the ceiling of a shadow (R45). -/
def WithinBounds (x : Shadow) (credit : Int) : Prop := Config.creditFloor ≤ credit ∧ credit ≤ ceilingAU x

section Credits

variable {s t : State}

theorem withinBounds_zero (x : Shadow) : WithinBounds x 0 := ⟨creditFloor_neg.le, ceilingAU_nonneg x⟩

/-- A credit raised or kept, then held at the ceiling, is within the bounds of that ceiling. -/
theorem withinBounds_min (x : Shadow) {c : Int} (h : Config.creditFloor ≤ c) : WithinBounds x (min c (ceilingAU x)) :=
  ⟨le_min h (creditFloor_neg.le.trans (ceilingAU_nonneg x)), min_le_right _ _⟩

/-- A lowered credit, held at the floor, stays within its bounds (R51). -/
theorem withinBounds_preCharge {x : Shadow} {a : Account} (estimate : Nat) (h : WithinBounds x a.credit) :
    WithinBounds x (a.preCharge estimate).credit := by
  obtain ⟨hfloor, hceiling⟩ := h
  refine ⟨le_max_right _ _, max_le ?_ (hfloor.trans hceiling)⟩
  omega

theorem withinBounds_refill {x : Shadow} {a : Account} (quantum : Nat) (h : WithinBounds x a.credit) :
    WithinBounds x (a.refill x quantum).credit := by
  have hrise : (0 : Int) ≤ x.weight * quantum := by positivity
  exact withinBounds_min x (h.1.trans (le_add_of_nonneg_right hrise))

/-- The credits stay bounded where each station's shadow and credit are kept, or its credit is within its bounds. -/
theorem creditsBounded_of (hs : CreditsBounded s)
    (h : ∀ n, ((t.entry n).shadow = (s.entry n).shadow ∧ (t.account n).credit = (s.account n).credit)
      ∨ WithinBounds (t.entry n).shadow (t.account n).credit) : CreditsBounded t := by
  intro n
  obtain ⟨hshadow, hcredit⟩ | hbounds := h n
  · rw [hshadow, hcredit]
    exact hs n
  · exact hbounds

/-- A write of one station's entry and account within the bounds keeps the credits bounded. -/
theorem creditsBounded_setEntry_setAccount (hs : CreditsBounded s) {n : StationId} {x : StationEntry} {a : Account}
    (h : WithinBounds x.shadow a.credit) : CreditsBounded ((s.setEntry n x).setAccount n a) := by
  refine creditsBounded_of hs fun m => ?_
  by_cases hm : m = n
  · subst hm
    exact .inr (by simpa using h)
  · exact .inl (by simp [setAccount_account_other _ hm, setEntry_entry_other _ hm])

/-- A write of one station's entry that keeps its shadow keeps the credits bounded. -/
theorem creditsBounded_setEntry (hs : CreditsBounded s) {n : StationId} {x : StationEntry}
    (h : x.shadow = (s.entry n).shadow) : CreditsBounded (s.setEntry n x) := by
  refine creditsBounded_of hs fun m => .inl ⟨?_, rfl⟩
  rw [setEntry_entry]
  split
  · next hm => rw [h, hm]
  · rfl

theorem creditsBounded_setAccount (hs : CreditsBounded s) {n : StationId} {a : Account}
    (h : WithinBounds (s.entry n).shadow a.credit) : CreditsBounded (s.setAccount n a) := by
  have hwrite := creditsBounded_setEntry_setAccount (n := n) (x := s.entry n) hs h
  rwa [setEntry_entry_eq] at hwrite

theorem creditsBounded_retireIfLast (hs : CreditsBounded s) (l : LaneId) (n : StationId) :
    CreditsBounded (retireIfLast l n s) := by
  refine creditsBounded_of hs fun m => ?_
  obtain hsame | hzero := retireIfLast_credit s l n m
  · exact .inl ⟨retireIfLast_shadow .., hsame⟩
  · exact .inr (hzero ▸ withinBounds_zero _)

theorem change_keeps_credits (h : Change s t) (hs : CreditsBounded s) : CreditsBounded t := by
  cases h with
  | link | latch | count | leastFree | settings => exact hs
  | lane | unstage | free | append | stage => exact creditsBounded_of hs fun m => .inl (by simp [returnToHead, clearStaged, appendPost, stage])
  | held | dozing => exact creditsBounded_setEntry hs rfl
  | clear => exact creditsBounded_of hs fun m => .inr (by simpa [Account.clear] using withinBounds_zero _)
  | refill l g =>
    refine creditsBounded_of hs fun m => ?_
    rw [refillGroup_account]
    split
    · exact .inr (withinBounds_refill _ (hs m))
    · exact .inl ⟨rfl, rfl⟩
  | leave => exact creditsBounded_retireIfLast (creditsBounded_setEntry hs (by rfl)) _ _
  | activate n x => exact creditsBounded_setEntry_setAccount hs (withinBounds_zero x)
  | rewrite n x => exact creditsBounded_setEntry_setAccount hs (withinBounds_min x (hs n).1)
  | issue l e =>
    refine creditsBounded_of (s := (s.setAccount e.owner ((s.account e.owner).preCharge (newGrant l e s).estimate)))
      (creditsBounded_setAccount hs (withinBounds_preCharge _ (hs e.owner))) fun m => .inl ?_
    simp [issueGrant, preChargeStation, setAccount_account]
  | endGrant l g a _ _ hcredit =>
    have hbounds : WithinBounds (s.entry g.entry.owner).shadow a.credit :=
      hcredit.elim (fun hsame => hsame ▸ hs g.entry.owner) id
    exact creditsBounded_retireIfLast
      (creditsBounded_of (creditsBounded_setAccount hs hbounds) fun m => .inl (by simp)) _ _

theorem creditsBounded_takePowerOnReset (s : State) : CreditsBounded (takePowerOnReset s) := by
  intro n
  rw [takePowerOnReset_entry, takePowerOnReset_account]
  exact withinBounds_zero _

end Credits

/-! ### The pool (R23, R163) -/

section Pool

variable {s t : State}

/-- How often an entry number stands in a station's queue. -/
def queueCount (i : Nat) (es : List PoolEntry) : Nat := (es.map PoolEntry.id).count i

/-- How often an entry number stands in the free stack, the queues, the staged slots and the issued lists. -/
def entryCount (s : State) (i : Nat) : Nat :=
  s.free.count i + ∑ n, queueCount i (s.queue n) + (laneIds s.laneA).count i + (laneIds s.laneB).count i

theorem poolConserved_iff : PoolConserved s ↔ ∀ i, entryCount s i = resetFree.count i := by
  have hqueues : ∀ i, (queuedIds s).count i = ∑ n, queueCount i (s.queue n) := fun i => by
    rw [queuedIds, List.count_flatMap, Fin.sum_univ_def]
    rfl
  simp only [PoolConserved, List.perm_iff_count, entryCount, List.count_append, hqueues]

/-- What one queue holds more than before, all queues hold more together. -/
theorem sum_queueCount_setQueue (n : StationId) (q : List PoolEntry) (i : Nat) :
    ∑ m, queueCount i ((s.setQueue n q).queue m) + queueCount i (s.queue n)
      = ∑ m, queueCount i (s.queue m) + queueCount i q := by
  rw [← Finset.add_sum_erase _ _ (Finset.mem_univ n), ← Finset.add_sum_erase _ (fun m => queueCount i (s.queue m)) (Finset.mem_univ n)]
  have hothers : ∑ m ∈ Finset.univ.erase n, queueCount i ((s.setQueue n q).queue m)
      = ∑ m ∈ Finset.univ.erase n, queueCount i (s.queue m) :=
    Finset.sum_congr rfl fun m hm => by rw [setQueue_queue_other s (Finset.ne_of_mem_erase hm)]
  rw [hothers, setQueue_queue_self]
  omega

theorem entryCount_setQueue (n : StationId) (q : List PoolEntry) (i : Nat) :
    entryCount (s.setQueue n q) i + queueCount i (s.queue n) = entryCount s i + queueCount i q := by
  have hsum := sum_queueCount_setQueue (s := s) n q i
  simp only [entryCount, setQueue_free, setQueue_laneA, setQueue_laneB]
  omega

theorem entryCount_setFree (ids : List Nat) (i : Nat) :
    entryCount (s.setFree ids) i + s.free.count i = entryCount s i + ids.count i := by
  simp only [entryCount, setFree_free, setFree_queue, setFree_laneA, setFree_laneB]
  omega

theorem entryCount_setLane (l : LaneId) (y : Lane) (i : Nat) :
    entryCount (s.setLane l y) i + (laneIds (s.lane l)).count i = entryCount s i + (laneIds y).count i := by
  cases l <;> simp only [entryCount, setLane_free, setLane_queue] <;> simp only [State.setLane, State.lane] <;> omega

/-- The count depends on the free stack, the queues and what the lanes hold, and on nothing else. -/
theorem entryCount_congr (hfree : t.free = s.free) (hqueue : ∀ n, t.queue n = s.queue n)
    (hlane : ∀ l, laneIds (t.lane l) = laneIds (s.lane l)) (i : Nat) : entryCount t i = entryCount s i := by
  have hA : laneIds t.laneA = laneIds s.laneA := hlane .a
  have hB : laneIds t.laneB = laneIds s.laneB := hlane .b
  simp only [entryCount, hfree, hqueue, hA, hB]

theorem count_laneIds (x : Lane) (i : Nat) :
    (laneIds x).count i = queueCount i x.staged.toList + (x.issued.map (fun g => g.entry.id)).count i :=
  List.count_append

theorem queueCount_cons (i : Nat) (e : PoolEntry) (es : List PoolEntry) :
    queueCount i (e :: es) = queueCount i [e] + queueCount i es := by
  rw [queueCount, queueCount, queueCount, ← List.count_append, ← List.map_append, List.singleton_append]

theorem queueCount_append (i : Nat) (es fs : List PoolEntry) :
    queueCount i (es ++ fs) = queueCount i es + queueCount i fs := by
  rw [queueCount, List.map_append, List.count_append]
  rfl

/-- Taking the staged entry out of a lane. -/
theorem entryCount_clearStaged (l : LaneId) {e : PoolEntry} (h : (s.lane l).staged = some e) (i : Nat) :
    entryCount (clearStaged l s) i + queueCount i [e] = entryCount s i := by
  have hlane := entryCount_setLane (s := s) l { s.lane l with staged := none } i
  simp only [count_laneIds, h, Option.toList_some, Option.toList_none] at hlane
  have hnil : queueCount i [] = 0 := rfl
  simp only [clearStaged]
  omega

theorem entryCount_returnToHead (e : PoolEntry) (i : Nat) :
    entryCount (returnToHead e s) i = entryCount s i + queueCount i [e] := by
  have hqueue := entryCount_setQueue (s := s) e.owner (e :: s.queue e.owner) i
  rw [queueCount_cons] at hqueue
  rw [returnToHead]
  omega

/-- A backlog freed leaves every entry of the station on the free stack (R15, R34). -/
theorem entryCount_freeBacklog (n : StationId) (i : Nat) : entryCount (freeBacklog n s) i = entryCount s i := by
  obtain ⟨e, hstaged, h⟩ | ⟨-, h⟩ := freeBacklog_cases s n
  · obtain ⟨hlane, -⟩ := (stagedFor_eq_some s).1 hstaged
    have hclear := entryCount_clearStaged _ hlane i
    have hfree := entryCount_setFree (s := clearStaged (s.entry n).shadow.lane s)
      (((s.queue n).map PoolEntry.id).reverse ++ e.id :: s.free) i
    have hqueue := entryCount_setQueue (s := (clearStaged (s.entry n).shadow.lane s).setFree
      (((s.queue n).map PoolEntry.id).reverse ++ e.id :: s.free)) n [] i
    simp only [setFree_queue, clearStaged, setLane_queue, setLane_free, List.count_append, List.count_reverse,
      List.count_cons, queueCount, List.map_cons, List.map_nil, List.count_nil] at hclear hfree hqueue
    simp only [h, clearStaged]
    omega
  · have hfree := entryCount_setFree (s := s) (((s.queue n).map PoolEntry.id).reverse ++ s.free) i
    have hqueue := entryCount_setQueue (s := s.setFree (((s.queue n).map PoolEntry.id).reverse ++ s.free)) n [] i
    simp only [setFree_queue, List.count_append, List.count_reverse, queueCount, List.map_nil, List.count_nil]
      at hfree hqueue
    rw [h]
    omega

/-- A POST moves the top of the free stack to the tail of a queue (R31). -/
theorem entryCount_appendPost (n : StationId) (r : Request) (hfree : s.free ≠ []) (i : Nat) :
    entryCount (appendPost n r s) i = entryCount s i := by
  obtain ⟨id, rest, hs⟩ := List.exists_cons_of_ne_nil hfree
  have hpop := entryCount_setFree (s := s) rest i
  have hqueue := entryCount_setQueue (s := s.setFree rest) n (s.queue n ++ [postedEntry n r s]) i
  have hid : (postedEntry n r s).id = id := by simp [postedEntry, hs]
  have hsame : entryCount (appendPost n r s) i
      = entryCount ((s.setFree rest).setQueue n (s.queue n ++ [postedEntry n r s])) i :=
    entryCount_congr (by simp [appendPost, hs]) (by simp [appendPost, setQueue_queue]) (by simp [appendPost]) i
  rw [setFree_queue, queueCount_append] at hqueue
  simp only [queueCount, List.map_cons, List.map_nil, hid, hs, List.count_cons, List.count_nil] at hpop hqueue
  omega

theorem movePointer_parts (x : Lane) (moved : Option ServiceClass) (n : StationId) :
    (x.movePointer moved n).staged = x.staged ∧ (x.movePointer moved n).issued = x.issued := by
  cases moved with
  | none => exact ⟨rfl, rfl⟩
  | some c => cases c <;> exact ⟨rfl, rfl⟩

/-- A staging moves the head of a queue into the empty staged slot (R91). -/
theorem entryCount_stage (l : LaneId) (n : StationId) (moved : Option ServiceClass)
    (hslot : (s.lane l).staged = none) (i : Nat) : entryCount (stage l n moved s) i = entryCount s i := by
  obtain ⟨y, hy, hstaged, hissued⟩ : ∃ y : Lane, stage l n moved s = (s.setLane l y).setQueue n (s.queue n).tail
      ∧ y.staged = (s.queue n).head? ∧ y.issued = (s.lane l).issued := ⟨_, rfl, rfl, (movePointer_parts ..).2⟩
  have hlane := entryCount_setLane (s := s) l y i
  have hqueue := entryCount_setQueue (s := s.setLane l y) n (s.queue n).tail i
  have hsplit : queueCount i (s.queue n) = queueCount i (s.queue n).head?.toList + queueCount i (s.queue n).tail := by
    cases s.queue n with
    | nil => rfl
    | cons e rest => exact queueCount_cons i e rest
  have hnil : queueCount i [] = 0 := rfl
  simp only [count_laneIds, hslot, hstaged, hissued, Option.toList_none] at hlane
  rw [setLane_queue] at hqueue
  rw [hy]
  omega

/-- An issue moves the staged entry to the issued list (R112). -/
theorem entryCount_issueGrant (l : LaneId) (e : PoolEntry) (h : (s.lane l).staged = some e) (i : Nat) :
    entryCount (issueGrant l e s) i = entryCount s i := by
  have hsame : entryCount (issueGrant l e s) i = entryCount (s.setLane l ((s.lane l).issue (newGrant l e s))) i :=
    entryCount_congr (by simp [issueGrant, preChargeStation]) (by simp [issueGrant, preChargeStation])
      (by simp [issueGrant, preChargeStation]) i
  have hlane := entryCount_setLane (s := s) l ((s.lane l).issue (newGrant l e s)) i
  have hstaged : ((s.lane l).issue (newGrant l e s)).staged = none := rfl
  have hissued : ((s.lane l).issue (newGrant l e s)).issued = (s.lane l).issued ++ [newGrant l e s] := rfl
  have hentry : (newGrant l e s).entry = e := rfl
  simp only [count_laneIds, h, hstaged, hissued, queueCount, List.map_append, List.count_append, Option.toList_some,
    Option.toList_none, List.map_cons, List.map_nil, List.count_nil, hentry] at hlane
  omega

/-- The end of a grant moves its entry onto the free stack (R40). -/
theorem entryCount_endGrant (l : LaneId) (g : Grant) (a : Account) (h : (s.lane l).grantAt g.slot = some g) (i : Nat) :
    entryCount (endGrant l g a s) i = entryCount s i := by
  have hsame : entryCount (endGrant l g a s) i
      = entryCount ((s.setLane l ((s.lane l).dropGrant g.slot)).setFree (g.entry.id :: s.free)) i :=
    entryCount_congr (by simp [endGrant]) (by simp [endGrant]) (by simp [endGrant, setLane_lane]) i
  have hlane := entryCount_setLane (s := s) l ((s.lane l).dropGrant g.slot) i
  have hfree := entryCount_setFree (s := s.setLane l ((s.lane l).dropGrant g.slot)) (g.entry.id :: s.free) i
  have hissued := ((dropGrant_perm h).map (fun g => g.entry.id)).count_eq i
  have hstaged : ((s.lane l).dropGrant g.slot).staged = (s.lane l).staged := rfl
  simp only [count_laneIds, hstaged] at hlane
  simp only [setLane_free, List.map_cons, List.count_cons] at hfree hissued
  omega

/-- With every entry on the free stack in its reset order, nothing else holds one. -/
theorem entryCount_of_free (hfree : s.free = resetFree) (hqueue : ∀ n, s.queue n = [])
    (hlane : ∀ l, laneIds (s.lane l) = []) (i : Nat) : entryCount s i = resetFree.count i := by
  have hA : laneIds s.laneA = [] := hlane .a
  have hB : laneIds s.laneB = [] := hlane .b
  simp [entryCount, hfree, hqueue, hA, hB, queueCount]

theorem clear_parts (x : Lane) : x.clear.staged = none ∧ x.clear.issued = [] := by
  unfold Lane.clear
  dsimp only
  split
  · exact startPhase_parts ..
  · exact ⟨rfl, rfl⟩

theorem change_keeps_entryCount (h : Change s t) (i : Nat) (hs : entryCount s i = resetFree.count i) :
    entryCount t i = resetFree.count i := by
  cases h with
  | link | latch | count | leastFree | settings | refill | held | dozing | activate | rewrite => exact hs
  | clear =>
    refine entryCount_of_free rfl (schedulerClear_queue s) (fun l => ?_) i
    obtain ⟨hstaged, hissued⟩ := clear_parts (s.lane l)
    simp [laneIds, hstaged, hissued]
  | lane l y hstaged hissued =>
    rw [← hs]
    refine entryCount_congr (by simp) (by simp) (fun k => ?_) i
    rw [setLane_lane]
    split
    · next hk => rw [laneIds, hstaged, hissued, hk, laneIds]
    · rfl
  | unstage l e hstaged => rw [entryCount_returnToHead, entryCount_clearStaged l hstaged, hs]
  | free n => rw [entryCount_freeBacklog, hs]
  | leave n => rw [← hs]; exact entryCount_congr (by simp [leaveService]) (by simp [leaveService]) (by simp [leaveService]) i
  | append n r _ _ hfree => rw [entryCount_appendPost n r hfree, hs]
  | stage l n moved _ hslot => rw [entryCount_stage l n moved hslot, hs]
  | issue l e hstaged => rw [entryCount_issueGrant l e hstaged, hs]
  | endGrant l g a hfind => rw [entryCount_endGrant l g a hfind, hs]

theorem change_keeps_pool (h : Change s t) (hs : PoolConserved s) : PoolConserved t :=
  poolConserved_iff.2 fun i => change_keeps_entryCount h i (poolConserved_iff.1 hs i)

theorem length_resetFree : resetFree.length = 4096 := by
  unfold resetFree
  exact List.length_range

theorem poolConserved_takePowerOnReset (s : State) : PoolConserved (takePowerOnReset s) :=
  poolConserved_iff.2 (entryCount_of_free rfl (takePowerOnReset_queue s) fun l => by rw [takePowerOnReset_lane]; rfl)

/-- The free stack never holds more than the pool (R24). -/
theorem freeCount_le_of_poolConserved (hs : PoolConserved s) : s.freeCount ≤ 4096 := by
  have hlength := hs.length_eq
  simp only [List.length_append, length_resetFree] at hlength
  unfold State.freeCount
  omega

theorem freeCount_le_freeBacklog (n : StationId) : s.freeCount ≤ (freeBacklog n s).freeCount := by
  simp only [State.freeCount, freeBacklog_free, List.length_append]
  omega

/-- Where the least free count is kept and the free stack does not shrink, the bound is kept. -/
theorem leastFreeBelow_of (hs : LeastFreeBelow s) (hleast : t.leastFree = s.leastFree)
    (hfree : s.freeCount ≤ t.freeCount) : LeastFreeBelow t := by
  unfold LeastFreeBelow
  rw [hleast]
  exact hs.trans hfree

/-- Only a POST shrinks the free stack, and it lowers the least free count with it (R163). -/
theorem change_keeps_leastFree (h : Change s t) (hpool : PoolConserved s) (hs : LeastFreeBelow s) :
    LeastFreeBelow t := by
  cases h with
  | link | latch | count | settings | refill | held | dozing | activate | rewrite => exact hs
  | leastFree => exact le_rfl
  | clear =>
    have hfull : (schedulerClear s).freeCount = 4096 := length_resetFree
    exact leastFreeBelow_of hs rfl (hfull ▸ freeCount_le_of_poolConserved hpool)
  | lane => exact leastFreeBelow_of hs (by simp) (by simp [State.freeCount])
  | unstage => exact leastFreeBelow_of hs (by simp [returnToHead, clearStaged]) (by simp [returnToHead, clearStaged, State.freeCount])
  | free n => exact leastFreeBelow_of hs (freeBacklog_leastFree ..) (freeCount_le_freeBacklog n)
  | leave => exact leastFreeBelow_of hs (by simp [leaveService]) (by simp [leaveService, State.freeCount])
  | append => exact min_le_right _ _
  | stage => exact leastFreeBelow_of hs (by simp [stage]) (by simp [stage, State.freeCount])
  | issue =>
    exact leastFreeBelow_of hs (by simp [issueGrant, preChargeStation]) (by simp [issueGrant, preChargeStation, State.freeCount])
  | endGrant => exact leastFreeBelow_of hs (by simp [endGrant]) (by simp [endGrant, State.freeCount])

theorem leastFreeBelow_takePowerOnReset (s : State) : LeastFreeBelow (takePowerOnReset s) :=
  le_of_eq length_resetFree.symm

end Pool

/-! ### The statements -/

/-- Settles O54: each change moves an entry from one place to another, and only a pop shrinks the free stack. -/
theorem everyStepConservesThePool : Obligations.EveryStepConservesThePool := by
  intro s t hpool hstep
  refine ⟨?pool, fun hleast => ?least⟩
  case pool =>
    exact step_keeps poolConserved_takePowerOnReset (fun _ _ => change_keeps_pool) (fun _ _ _ _ h => h) hpool hstep
  case least =>
    have hboth := step_keeps (P := fun u => PoolConserved u ∧ LeastFreeBelow u)
      (fun u => ⟨poolConserved_takePowerOnReset u, leastFreeBelow_takePowerOnReset u⟩)
      (fun _ _ hchange h => ⟨change_keeps_pool hchange h.1, change_keeps_leastFree hchange h.1 h.2⟩)
      (fun _ _ _ _ h => h) ⟨hpool, hleast⟩ hstep
    exact hboth.2

/-- Settles O55: every change keeps a credit, clears it, or holds it at the floor or the ceiling. -/
theorem everyStepBoundsTheCredits : Obligations.EveryStepBoundsTheCredits := fun _ _ hs hstep =>
  step_keeps creditsBounded_takePowerOnReset (fun _ _ => change_keeps_credits) (fun _ _ _ _ h => h) hs hstep

end Sys2Proof.Machine
end

section
/-! PROOFS. The promises about the lanes: the issued lists (R109, R110), the timers and the staged slot by lane state
(R71, R76, R81) and the settings (R47, R67, R141, R152), each by one case for every change of a lane. -/

namespace Sys2Proof.Machine

open Sys2Proof

/-! ### A lane through a step -/

section Runs

variable {P : Lane → Prop}

theorem LaneSteps.keeps {x y : Lane} (hstep : ∀ x y, LaneStep x y → P x → P y) (h : LaneSteps x y) (hx : P x) : P y := by
  induction h with
  | refl => exact hx
  | tail _ hlast ih => exact hstep _ _ hlast ih

/-- A promise about one lane that every change of a lane keeps is kept by every step. -/
theorem step_keeps_lanes {s t : State} (hlane : ∀ x y, LaneStep x y → P x → P y) (hs : ∀ l, P (s.lane l))
    (h : step s = .next t) (l : LaneId) : P (t.lane l) := by
  unfold step at h
  split at h
  · cases h; exact hs l
  · next c rest _ =>
    have hrun := exec_lane h l
    rw [withPending_lane] at hrun
    exact hrun.keeps hlane (hs l)

end Runs

/-! ### What the changes of a lane write -/

section Parts

variable (x : Lane)

/-- A start of a phase writes the phase and its timers alone (R76). -/
theorem startPhase_eq (p : ServiceClass) : ∃ reserved shared, x.startPhase p =
    { x with phase := p, reservedTimer := reserved, sharedTimer := shared } := by
  cases p <;> exact ⟨_, _, rfl⟩

theorem changeMode_same : x.changeMode x.mode = x := if_pos rfl

theorem changeMode_alternate (h : .alternate ≠ x.mode) :
    x.changeMode .alternate = ({ x with mode := .alternate } : Lane).startPhase x.phase := if_neg h

theorem changeMode_reservedOnly (h : .reservedOnly ≠ x.mode) :
    x.changeMode .reservedOnly = ({ x with mode := .reservedOnly } : Lane).fixPhase .reserved := if_neg h

theorem changeMode_sharedOnly (h : .sharedOnly ≠ x.mode) :
    x.changeMode .sharedOnly = ({ x with mode := .sharedOnly } : Lane).fixPhase .shared := if_neg h

/-- A phase mode taken writes the mode, the phase and its timers alone (R77). -/
theorem changeMode_eq (m : PhaseMode) : ∃ phase reserved shared, x.changeMode m =
    { x with mode := m, phase := phase, reservedTimer := reserved, sharedTimer := shared } := by
  by_cases hsame : m = x.mode
  · subst hsame
    exact ⟨x.phase, x.reservedTimer, x.sharedTimer, changeMode_same x⟩
  · cases m
    · rw [changeMode_alternate x hsame]
      obtain ⟨reserved, shared, h⟩ := startPhase_eq { x with mode := .alternate } x.phase
      exact ⟨_, _, _, h⟩
    · exact ⟨_, _, _, changeMode_reservedOnly x hsame⟩
    · exact ⟨_, _, _, changeMode_sharedOnly x hsame⟩

/-- The settings of a record but for the phase mode (R47, R67). -/
def Lane.withSettings (x : Lane) (r : LaneRecord) : Lane :=
  { x with
    quantum := clampQuantum r.quantum
    overhead := clampOverhead r.overhead
    reservedSetting := clampTimer r.reserved
    sharedSetting := clampTimer r.shared
    refillSetting := clampTimer r.refill
    timeoutSetting := clampTimer r.timeout }

theorem takeSettings_of_off (r : LaneRecord) (h : x.laneState = .off) :
    x.takeSettings r = { x.withSettings r with mode := phaseModeOfCode r.modeCode } := by
  unfold Lane.takeSettings
  dsimp only
  split
  · rfl
  all_goals simp_all

/-- A lane in service takes the phase mode at once (R77). -/
theorem takeSettings_of_on (r : LaneRecord) (h : x.laneState ≠ .off) :
    x.takeSettings r = (x.withSettings r).changeMode (phaseModeOfCode r.modeCode) := by
  unfold Lane.takeSettings
  dsimp only
  split
  · contradiction
  all_goals rfl

/-- A lane record writes the settings, the phase and its timers alone (R155). -/
theorem takeSettings_eq (r : LaneRecord) : ∃ phase reserved shared, x.takeSettings r =
    { x.withSettings r with
      mode := phaseModeOfCode r.modeCode, phase := phase, reservedTimer := reserved, sharedTimer := shared } := by
  by_cases hoff : x.laneState = .off
  · exact ⟨_, _, _, takeSettings_of_off x r hoff⟩
  · rw [takeSettings_of_on x r hoff]
    exact changeMode_eq ..

/-- What a scheduler clear empties in a lane (R153). -/
def Lane.emptied (x : Lane) : Lane :=
  { x.discardSweep with
    staged := none
    reservedPtr := 511
    sharedPtr := 511
    issued := []
    expired := Vector.replicate 64 none }

/-- Only an alternating lane in service has its phase restarted by a scheduler clear (R80). -/
theorem clear_of_restart (h : x.laneState ≠ .off ∧ x.mode = .alternate) :
    x.clear = x.emptied.startPhase .reserved := if_pos h

theorem clear_of_no_restart (h : ¬(x.laneState ≠ .off ∧ x.mode = .alternate)) : x.clear = x.emptied := if_neg h

theorem setPointer_eq (c : ServiceClass) (n : StationId) :
    ∃ reserved shared, x.setPointer c n = { x with reservedPtr := reserved, sharedPtr := shared } := by
  cases c <;> exact ⟨_, _, rfl⟩

/-- A visit writes the sweep alone (R73). -/
theorem afterVisit_eq : ∃ sweeping position owed, x.afterVisit =
    { x with sweeping := sweeping, position := position, owed := owed, visitDue := false } := by
  unfold Lane.afterVisit
  split
  · split <;> exact ⟨_, _, _, rfl⟩
  · exact ⟨_, _, _, rfl⟩

end Parts

/-! ### The issued window (R109, R110) -/

section Window

variable {x y : Lane}

/-- A lane that keeps its list, its expected slot and its sequence, and does not become Off, keeps the window. -/
theorem issuedInWindow_of_same (hx : x.issuedInWindow) (hissued : y.issued = x.issued) (hexpected : y.expected = x.expected)
    (hseq : y.nextSeq = x.nextSeq) (hstate : y.laneState = .off → x.laneState = .off) : y.issuedInWindow := by
  obtain ⟨hlength, hnodup, hgrants, hoff⟩ := hx
  unfold Lane.issuedInWindow Grant.behind
  rw [hissued, hexpected, hseq]
  exact ⟨hlength, hnodup, hgrants, fun h => hoff (hstate h)⟩

theorem issuedInWindow_of_empty (h : y.issued = []) : y.issuedInWindow := by
  simp [Lane.issuedInWindow, h]

/-- A grant taken out of the list leaves the others in the window. -/
theorem issuedInWindow_dropGrant (k : Slot) (hx : x.issuedInWindow) : (x.dropGrant k).issuedInWindow := by
  obtain ⟨hlength, hnodup, hgrants, hoff⟩ := hx
  have hsub : (x.dropGrant k).issued.Sublist x.issued := List.eraseP_sublist
  refine ⟨hsub.length_le.trans hlength, hnodup.sublist (hsub.map _), fun g hg => hgrants g (hsub.subset hg), fun h => ?_⟩
  have hempty : x.issued = [] := hoff h
  simpa [hempty] using hsub

/-- A grant one issue behind falls one more behind when the next grant is issued (R110). -/
theorem behind_succ {g g' : Grant} {j : Nat} (h : g.behind x j) : g.behind (x.issue g') (j + 1) := by
  obtain ⟨hslot, hseq⟩ := h
  refine ⟨?_, ?_⟩
  · show g.slot + Fin.ofNat 64 (j + 1) = x.expected + 1
    rw [← hslot]
    ext
    simp only [Fin.val_add, Fin.ofNat]
    omega
  · show g.seq + BitVec.ofNat 8 (j + 1) = x.nextSeq + 1
    rw [← hseq, BitVec.ofNat_add, BitVec.add_assoc]
    rfl

/-- A grant in the window does not lie at the expected slot. -/
theorem slot_ne_expected {g : Grant} {j : Nat} (h : g.behind x j) (hone : 1 ≤ j) (hfour : j ≤ 4) :
    g.slot ≠ x.expected := by
  obtain ⟨hslot, -⟩ := h
  intro heq
  have hval := congrArg Fin.val hslot
  rw [heq] at hval
  simp only [Fin.val_add, Fin.ofNat] at hval
  omega

/-- With room in the list, no grant lies four issues behind (R111). -/
theorem lt_four_of_room {g : Grant} {j : Nat} (h : g.behind x j) (hfour : j ≤ 4) (hroom : g.slot ≠ x.expected + 60) :
    j < 4 := by
  obtain ⟨hslot, -⟩ := h
  refine lt_of_le_of_ne hfour fun hj => hroom ?_
  subst hj
  rw [← hslot]
  ext
  simp only [Fin.val_add, Fin.ofNat]
  omega

/-- An issue puts a grant one behind the advanced slot and sequence (R110, R112). -/
theorem issuedInWindow_issue {g : Grant} (hrun : x.laneState = .running) (hroom : x.hasRoom = true)
    (hslot : g.slot = x.expected) (hseq : g.seq = x.nextSeq) (hestimate : g.estimate ≤ Config.estimateMax)
    (hx : x.issuedInWindow) : (x.issue g).issuedInWindow := by
  obtain ⟨-, hnodup, hgrants, -⟩ := hx
  obtain ⟨hlength, hslots⟩ := (hasRoom_iff x).1 hroom
  have hissued : (x.issue g).issued = x.issued ++ [g] := rfl
  refine ⟨?length, ?nodup, ?grants, fun hoff => ?off⟩
  case length =>
    rw [hissued, List.length_append, List.length_singleton]
    omega
  case nodup =>
    rw [hissued, List.map_append, List.nodup_append]
    refine ⟨hnodup, List.nodup_singleton _, ?_⟩
    simp only [List.mem_map, List.map_singleton, List.mem_singleton]
    rintro _ ⟨h, hh, rfl⟩ _ rfl
    obtain ⟨-, j, hone, hfour, hbehind⟩ := hgrants h hh
    exact hslot ▸ slot_ne_expected hbehind hone hfour
  case grants =>
    intro h hh
    rw [hissued, List.mem_append, List.mem_singleton] at hh
    obtain hh | rfl := hh
    · obtain ⟨hmax, j, hone, hfour, hbehind⟩ := hgrants h hh
      have hlt := lt_four_of_room hbehind hfour (hslots h hh)
      exact ⟨hmax, j + 1, by omega, by omega, behind_succ hbehind⟩
    · exact ⟨hestimate, 1, le_rfl, by omega, by rw [hslot]; rfl, by rw [hseq]; rfl⟩
  case off =>
    have hstate : (x.issue g).laneState = .running := hrun
    rw [hstate] at hoff
    cases hoff

theorem laneStep_keeps_window (h : LaneStep x y) (hx : x.issuedInWindow) : y.issuedInWindow := by
  cases h with
  | unstage | stage | remember | refillStart | refillOwe | refillLost | tick =>
    exact issuedInWindow_of_same hx rfl rfl rfl id
  | drain | resume => exact issuedInWindow_of_same hx rfl rfl rfl fun h => (by cases h)
  | settings r =>
    obtain ⟨_, _, _, heq⟩ := takeSettings_eq x r
    rw [heq]
    exact issuedInWindow_of_same hx rfl rfl rfl id
  | enable k hoff =>
    have hempty : x.issued = [] := hx.2.2.2 hoff
    exact issuedInWindow_of_empty (by rw [enable_eq]; exact hempty)
  | off _ _ hempty => exact issuedInWindow_of_empty hempty
  | point c n =>
    obtain ⟨_, _, heq⟩ := setPointer_eq x c n
    rw [heq]
    exact issuedInWindow_of_same hx rfl rfl rfl id
  | issue g hrun hroom hslot hseq hestimate => exact issuedInWindow_issue hrun hroom hslot hseq hestimate hx
  | drop k => exact issuedInWindow_dropGrant k hx
  | visit =>
    obtain ⟨_, _, _, heq⟩ := afterVisit_eq x
    rw [heq]
    exact issuedInWindow_of_same hx rfl rfl rfl id
  | phase =>
    obtain ⟨_, _, heq⟩ := startPhase_eq x x.phase.other
    rw [heq]
    exact issuedInWindow_of_same hx rfl rfl rfl id
  | clear => exact issuedInWindow_of_empty (clear_parts x).2
  | reset => exact issuedInWindow_of_empty rfl

end Window

/-! ### Timers, sweep and staged slot by lane state (R71, R76, R81) -/

section Rest

variable {x y : Lane}

theorem phaseTimersMatch_startPhase (p : ServiceClass) (h : x.mode = .alternate) : (x.startPhase p).phaseTimersMatch := by
  cases p <;> simp [Lane.startPhase, Lane.phaseTimersMatch, h, Lane.phaseTimer, ServiceClass.other]

/-- Every phase mode gives the phase and the timers it asks for (R77). -/
theorem phaseTimersMatch_changeMode (m : PhaseMode) (hx : x.phaseTimersMatch) : (x.changeMode m).phaseTimersMatch := by
  by_cases hsame : m = x.mode
  · subst hsame
    rwa [changeMode_same]
  · cases m
    · rw [changeMode_alternate x hsame]
      exact phaseTimersMatch_startPhase _ rfl
    · rw [changeMode_reservedOnly x hsame]
      exact ⟨rfl, rfl, rfl⟩
    · rw [changeMode_sharedOnly x hsame]
      exact ⟨rfl, rfl, rfl⟩

theorem phaseTimersMatch_enterMode : x.enterMode.phaseTimersMatch := by
  cases hmode : x.mode <;> simp [Lane.enterMode, hmode, Lane.startPhase, Lane.fixPhase, Lane.phaseTimersMatch,
    Lane.phaseTimer, ServiceClass.other]

/-- A phase timer runs out only in an alternating lane (R77). -/
theorem mode_of_phaseTimer (hx : x.phaseTimersMatch) (h : x.phaseTimer x.phase = some 0) : x.mode = .alternate := by
  cases hmode : x.mode with
  | alternate => rfl
  | reservedOnly | sharedOnly =>
    simp only [Lane.phaseTimersMatch, hmode] at hx
    obtain ⟨hphase, hreserved, hshared⟩ := hx
    simp [Lane.phaseTimer, hphase, hreserved, hshared] at h

theorem phaseTimersMatch_tick (hx : x.phaseTimersMatch) : x.tick.phaseTimersMatch := by
  cases hmode : x.mode <;> cases hphase : x.phase <;>
    simp_all [Lane.phaseTimersMatch, Lane.tick, Lane.phaseTimer, ServiceClass.other]

/-- The four parts of `Lane.restsByState`, where the timers, the phase and the sweep are kept. -/
theorem restsByState_of_same (hx : x.restsByState) (hstate : y.laneState = x.laneState) (hmode : y.mode = x.mode)
    (hrefill : y.refillTimer = x.refillTimer) (hreserved : y.reservedTimer = x.reservedTimer)
    (hshared : y.sharedTimer = x.sharedTimer) (hphase : y.phase = x.phase)
    (hsweep : y.sweeping = x.sweeping ∧ y.position = x.position ∧ y.owed = x.owed ∧ y.visitDue = x.visitDue)
    (hstaged : y.laneState ≠ .running → y.staged = none) : y.restsByState := by
  obtain ⟨hoff, hon, -, hidle⟩ := hx
  obtain ⟨hsweeping, hposition, howed, hdue⟩ := hsweep
  have hmatch : x.phaseTimersMatch → y.phaseTimersMatch := by
    cases hp : x.phase <;>
      simp only [Lane.phaseTimersMatch, Lane.phaseTimer, hmode, hreserved, hshared, hphase, hp, imp_self]
  refine ⟨fun h => ?_, fun h => ?_, hstaged, fun h => ?_⟩
  · rw [hrefill, hreserved, hshared, hphase, hsweeping]
    exact hoff (hstate ▸ h)
  · rw [hrefill]
    exact (hon (hstate ▸ h)).imp_right hmatch
  · rw [hposition, howed, hdue]
    exact hidle (hsweeping ▸ h)

theorem restsByState_takeSettings (r : LaneRecord) (hx : x.restsByState) : (x.takeSettings r).restsByState := by
  obtain ⟨hoff, hon, hstaged, hidle⟩ := hx
  by_cases hstate : x.laneState = .off
  · rw [takeSettings_of_off x r hstate]
    exact ⟨fun _ => hoff hstate, fun h => absurd hstate h, hstaged, hidle⟩
  · have hmatch : (x.takeSettings r).phaseTimersMatch := by
      rw [takeSettings_of_on x r hstate]
      exact phaseTimersMatch_changeMode _ (hon hstate).2
    obtain ⟨_, _, _, heq⟩ := takeSettings_eq x r
    rw [heq] at hmatch ⊢
    exact ⟨fun h => absurd h hstate, fun _ => ⟨(hon hstate).1, hmatch⟩, hstaged, hidle⟩

theorem restsByState_enable (k : Slot) : (x.enable k).restsByState := by
  have hmatch : (x.enable k).phaseTimersMatch := phaseTimersMatch_enterMode (x := x)
  rw [enable_eq] at hmatch ⊢
  exact ⟨fun h => (by cases h), fun _ => ⟨rfl, hmatch⟩, fun h => absurd rfl h, fun _ => ⟨rfl, rfl, rfl⟩⟩

/-- A lane with its timers stopped rests as an Off lane must, unless it holds a staged grant (R71). -/
theorem restsByState_goOff (hstaged : x.staged = none) : x.goOff.restsByState :=
  ⟨fun _ => ⟨rfl, rfl, rfl, rfl, rfl⟩, fun h => absurd rfl h, fun _ => hstaged, fun _ => ⟨rfl, rfl, rfl⟩⟩

/-- A lane whose refill timer runs, or whose sweep goes on, is in service. -/
theorem laneState_ne_off (hx : x.restsByState) (h : x.refillTimer = some 0 ∨ x.sweeping = true) : x.laneState ≠ .off := by
  intro hstate
  obtain ⟨hrefill, -, -, -, hsweep⟩ := hx.1 hstate
  simp [hrefill, hsweep] at h

/-- A lane in service that keeps its phase and its timers, with its refill timer running, rests where its sweep does. -/
theorem restsByState_of_on (hon : y.laneState ≠ .off) (hrefill : y.refillTimer.isSome) (hmatch : y.phaseTimersMatch)
    (hstaged : y.laneState ≠ .running → y.staged = none)
    (hidle : y.sweeping = false → y.position = 0 ∧ y.owed = false ∧ y.visitDue = false) : y.restsByState :=
  ⟨fun h => absurd h hon, fun _ => ⟨hrefill, hmatch⟩, hstaged, hidle⟩

theorem restsByState_afterVisit (hsweep : x.sweeping = true) (hx : x.restsByState) : x.afterVisit.restsByState := by
  have hon := laneState_ne_off hx (.inr hsweep)
  obtain ⟨-, hservice, hstaged, -⟩ := hx
  obtain ⟨hrefill, hmatch⟩ := hservice hon
  unfold Lane.afterVisit
  split
  · split
    · exact restsByState_of_on hon hrefill hmatch hstaged fun h => by simp [hsweep] at h
    · next howed => exact restsByState_of_on hon hrefill hmatch hstaged fun _ => ⟨rfl, by simpa using howed, rfl⟩
  · exact restsByState_of_on hon hrefill hmatch hstaged fun h => by simp [hsweep] at h

theorem restsByState_phaseExpiry (h : x.phaseTimer x.phase = some 0) (hx : x.restsByState) :
    (x.startPhase x.phase.other).restsByState := by
  have hon : x.laneState ≠ .off := fun hstate => by
    obtain ⟨-, hreserved, hshared, hphase, -⟩ := hx.1 hstate
    simp [Lane.phaseTimer, hphase, hreserved] at h
  obtain ⟨-, hservice, hstaged, hidle⟩ := hx
  obtain ⟨hrefill, hmatch⟩ := hservice hon
  have hnew := phaseTimersMatch_startPhase x.phase.other (mode_of_phaseTimer hmatch h)
  obtain ⟨_, _, heq⟩ := startPhase_eq x x.phase.other
  rw [heq] at hnew ⊢
  exact restsByState_of_on hon hrefill hnew hstaged hidle

theorem restsByState_tick (hx : x.restsByState) : x.tick.restsByState := by
  obtain ⟨hoff, hon, hstaged, hidle⟩ := hx
  refine ⟨fun h => ?_, fun h => ?_, hstaged, fun h => ?_⟩
  · obtain ⟨hrefill, hreserved, hshared, hphase, hsweep⟩ := hoff h
    simp [Lane.tick, hrefill, hreserved, hshared, hphase, hsweep]
  · obtain ⟨hrefill, hmatch⟩ := hon h
    exact ⟨by simpa [Lane.tick] using hrefill, phaseTimersMatch_tick hmatch⟩
  · obtain ⟨hposition, howed, -⟩ := hidle h
    exact ⟨hposition, howed, h⟩

theorem restsByState_clear (hx : x.restsByState) : x.clear.restsByState := by
  obtain ⟨hoff, hon, -, -⟩ := hx
  by_cases hrestart : x.laneState ≠ .off ∧ x.mode = .alternate
  · have hmatch : x.clear.phaseTimersMatch := by
      rw [clear_of_restart x hrestart]
      exact phaseTimersMatch_startPhase _ hrestart.2
    rw [clear_of_restart x hrestart] at hmatch ⊢
    exact restsByState_of_on hrestart.1 (hon hrestart.1).1 hmatch (fun _ => rfl) fun _ => ⟨rfl, rfl, rfl⟩
  · rw [clear_of_no_restart x hrestart]
    refine ⟨fun h => ?_, fun h => ⟨(hon h).1, (hon h).2⟩, fun _ => rfl, fun _ => ⟨rfl, rfl, rfl⟩⟩
    obtain ⟨hrefill, hreserved, hshared, hphase, -⟩ := hoff h
    exact ⟨hrefill, hreserved, hshared, hphase, rfl⟩

theorem laneStep_keeps_rest (h : LaneStep x y) (hx : x.restsByState) : y.restsByState := by
  obtain ⟨hoff, hon, hstaged, hidle⟩ := id hx
  cases h with
  | settings r => exact restsByState_takeSettings r hx
  | enable k => exact restsByState_enable k
  | resume hdraining =>
    obtain ⟨hrefill, hmatch⟩ := hon (by simp [hdraining])
    exact restsByState_of_on (by simp) hrefill hmatch (fun h => absurd rfl h) hidle
  | drain hrun hempty =>
    obtain ⟨hrefill, hmatch⟩ := hon (by simp [hrun])
    exact restsByState_of_on (by simp) hrefill hmatch (fun _ => hempty) hidle
  | unstage => exact restsByState_of_same hx rfl rfl rfl rfl rfl rfl ⟨rfl, rfl, rfl, rfl⟩ (fun _ => rfl)
  | off _ hempty =>
    exact restsByState_goOff ((em (x.laneState = .running)).elim hempty hstaged)
  | point c n =>
    obtain ⟨_, _, heq⟩ := setPointer_eq x c n
    rw [heq]
    exact restsByState_of_same hx rfl rfl rfl rfl rfl rfl ⟨rfl, rfl, rfl, rfl⟩ hstaged
  | stage e hrun =>
    exact restsByState_of_same hx rfl rfl rfl rfl rfl rfl ⟨rfl, rfl, rfl, rfl⟩ (fun h => absurd hrun h)
  | issue g => exact restsByState_of_same hx rfl rfl rfl rfl rfl rfl ⟨rfl, rfl, rfl, rfl⟩ (fun _ => rfl)
  | drop | remember => exact restsByState_of_same hx rfl rfl rfl rfl rfl rfl ⟨rfl, rfl, rfl, rfl⟩ hstaged
  | refillStart hexpiry =>
    have hservice := laneState_ne_off hx (.inl hexpiry)
    exact restsByState_of_on hservice rfl (hon hservice).2 hstaged fun h => (by cases h)
  | refillOwe hexpiry hsweep | refillLost hexpiry hsweep =>
    have hservice := laneState_ne_off hx (.inl hexpiry)
    exact restsByState_of_on hservice rfl (hon hservice).2 hstaged fun h => (by simp [hsweep] at h)
  | visit hsweep => exact restsByState_afterVisit hsweep hx
  | phase hexpiry => exact restsByState_phaseExpiry hexpiry hx
  | tick => exact restsByState_tick hx
  | clear => exact restsByState_clear hx
  | reset => exact restsByState_goOff (x := Lane.reset) rfl

end Rest

/-! ### Settings (R47, R67, R141, R152) -/

section Settings

variable {x y : Lane} {s t : State}

theorem inRange_clampTimer (t : TimerSetting) : (clampTimer t).inRange := ⟨min_le_right _ _, min_le_right _ _⟩

theorem settingsInRange_withSettings (x : Lane) (r : LaneRecord) : (x.withSettings r).settingsInRange := by
  refine ⟨le_max_left _ _, max_le (by decide) (min_le_right _ _), min_le_right _ _, ?_, ?_, ?_, ?_⟩ <;>
    exact inRange_clampTimer _

theorem settingsInRange_reset : Lane.reset.settingsInRange := by
  unfold Lane.settingsInRange TimerSetting.inRange
  decide

theorem laneStep_keeps_settings (h : LaneStep x y) (hx : x.settingsInRange) : y.settingsInRange := by
  cases h with
  | resume | unstage | drain | off | stage | issue | drop | remember | refillStart | refillOwe | refillLost | tick =>
    exact hx
  | settings r =>
    obtain ⟨_, _, _, heq⟩ := takeSettings_eq x r
    rw [heq]
    exact settingsInRange_withSettings x r
  | enable k => rw [enable_eq]; exact hx
  | point c n =>
    obtain ⟨_, _, heq⟩ := setPointer_eq x c n
    rw [heq]
    exact hx
  | visit =>
    obtain ⟨_, _, _, heq⟩ := afterVisit_eq x
    rw [heq]
    exact hx
  | phase =>
    obtain ⟨_, _, heq⟩ := startPhase_eq x x.phase.other
    rw [heq]
    exact hx
  | clear =>
    by_cases hrestart : x.laneState ≠ .off ∧ x.mode = .alternate
    · rw [clear_of_restart x hrestart]; exact hx
    · rw [clear_of_no_restart x hrestart]; exact hx
  | reset => exact settingsInRange_reset

/-- The Probe Unit's settings lie in their range and name two sources (R141, R152). -/
def ProbeSettingsSound (s : State) : Prop := s.watermark ≤ 4095 ∧ SourcesDiffer s

theorem retireIfLast_controlKept (s : State) (l : LaneId) (n : StationId) : ControlKept s (retireIfLast l n s) := by
  obtain ⟨-, -, h⟩ | ⟨-, h⟩ := retireIfLast_cases s l n <;> rw [h]
  · exact .refl s
  · exact .refl s

theorem ControlKept.trans {u : State} (h : ControlKept s t) (h' : ControlKept t u) : ControlKept s u := by
  simp_all [ControlKept]

/-- Only an accepted global control record changes the Probe Unit's settings, and no change the window base or the queue
of commands; the count may advance (R152). -/
theorem change_control (h : Change s t) :
    (∃ r, globalRadioA r ≠ globalRadioB r ∧ t = takeGlobalSettings r s) ∨ ∃ k, ControlKept { s with count := k } t := by
  cases h with
  | settings r hdiffer => exact .inl ⟨r, hdiffer, rfl⟩
  | count k => exact .inr ⟨k, .refl _⟩
  | link | latch | leastFree | clear | refill | held | dozing | activate | rewrite | append =>
    exact .inr ⟨s.count, .refl s⟩
  | lane | unstage | stage | issue =>
    exact .inr ⟨s.count, by simp [returnToHead, clearStaged, stage, issueGrant, preChargeStation]⟩
  | free n => exact .inr ⟨s.count, freeBacklog_controlKept s n⟩
  | leave n =>
    have hentry : ControlKept s (s.setEntry n { s.entry n with lifecycle := .retiring, held := false, dozing := false }) :=
      (controlKept_setEntry ..).2 (.refl s)
    exact .inr ⟨s.count, hentry.trans (retireIfLast_controlKept ..)⟩
  | endGrant l g a =>
    have hrelease : ControlKept s (releaseGrant l g (s.setAccount g.entry.owner a)) := by simp
    exact .inr ⟨s.count, hrelease.trans (retireIfLast_controlKept ..)⟩

theorem change_keeps_probeSettings (h : Change s t) (hs : ProbeSettingsSound s) : ProbeSettingsSound t := by
  obtain ⟨r, hdiffer, rfl⟩ | ⟨k, -, -, hA, hB, hwatermark, -⟩ := change_control h
  · exact ⟨min_le_right _ _, hdiffer⟩
  · rw [ProbeSettingsSound, SourcesDiffer, hA, hB, hwatermark]
    exact hs

theorem probeSettingsSound_takePowerOnReset (s : State) : ProbeSettingsSound (takePowerOnReset s) :=
  ⟨Nat.zero_le _, (by decide : (1 : BitVec 4) ≠ 2)⟩

end Settings

/-! ### The statements -/

/-- Settles O56: only an issue adds a grant, and it advances the slot and the sequence together. -/
theorem everyStepKeepsTheIssuedWindow : Obligations.EveryStepKeepsTheIssuedWindow := fun _ _ hs hstep =>
  step_keeps_lanes (fun _ _ => laneStep_keeps_window) hs hstep

/-- Settles O57: each change of a lane leaves its timers, phase, sweep and staged slot as its state then asks. -/
theorem everyStepKeepsLanesAtRest : Obligations.EveryStepKeepsLanesAtRest := fun _ _ hs hstep =>
  step_keeps_lanes (fun _ _ => laneStep_keeps_rest) hs hstep

/-- Settles O59: a lane record's settings are clamped as they are taken, and a global record is taken only with two
sources. -/
theorem everyStepKeepsSettingsInRange : Obligations.EveryStepKeepsSettingsInRange := by
  intro s t hs hdiffer hstep
  obtain ⟨hlanes, hwatermark⟩ := hs
  have hlanes' := step_keeps_lanes (fun _ _ => laneStep_keeps_settings) hlanes hstep
  obtain ⟨hwatermark', hdiffer'⟩ : ProbeSettingsSound t := step_keeps probeSettingsSound_takePowerOnReset
    (fun _ _ => change_keeps_probeSettings) (fun _ _ _ _ h => h) ⟨hwatermark, hdiffer⟩ hstep
  exact ⟨⟨hlanes', hwatermark'⟩, hdiffer'⟩

end Sys2Proof.Machine
end

section
/-! PROOFS. The agreement of stations, staged frames and issued grants (R18, R25, R55, R58, R82, R109), by one case for
every change, and the soundness of the state after reset. -/

namespace Sys2Proof.Machine

open Sys2Proof

/-! ### The grants of one station -/

section Grants

variable {x y : Lane} {n m : StationId} {g : Grant}

/-- The issued grants of a lane that name a station, oldest first. -/
def grantsOf (x : Lane) (n : StationId) : List Grant := x.issued.filter (fun g => g.entry.owner == n)

theorem mem_grantsOf : g ∈ grantsOf x n ↔ g ∈ x.issued ∧ g.entry.owner = n := by
  simp [grantsOf]

theorem issuedCount_eq_length : issuedCount x n = (grantsOf x n).length := List.countP_eq_length_filter

theorem estimateSum_eq_sum : estimateSum x.issued n = ((grantsOf x n).map Grant.estimate).sum := rfl

theorem issuedCount_congr (h : (grantsOf y n).Perm (grantsOf x n)) : issuedCount y n = issuedCount x n := by
  rw [issuedCount_eq_length, issuedCount_eq_length, h.length_eq]

theorem estimateSum_congr (h : (grantsOf y n).Perm (grantsOf x n)) : estimateSum y.issued n = estimateSum x.issued n :=
  (h.map _).sum_eq

theorem estimateSum_of_none (h : ∀ g ∈ x.issued, g.entry.owner ≠ n) : estimateSum x.issued n = 0 := by
  have hempty : grantsOf x n = [] := by simpa [grantsOf, List.filter_eq_nil_iff] using h
  rw [estimateSum_eq_sum, hempty]
  rfl

theorem one_le_issuedCount (hg : g ∈ x.issued) (howner : g.entry.owner = n) : 1 ≤ issuedCount x n := by
  rw [issuedCount_eq_length]
  exact List.length_pos_of_mem (mem_grantsOf.2 ⟨hg, howner⟩)

theorem grantsOf_issue : grantsOf (x.issue g) n = grantsOf x n ++ (if g.entry.owner = n then [g] else []) := by
  simp only [grantsOf, Lane.issue, List.filter_append, List.filter_cons, List.filter_nil, beq_iff_eq]

theorem grantsOf_dropGrant {k : Slot} (h : x.grantAt k = some g) :
    (grantsOf x n).Perm ((if g.entry.owner = n then [g] else []) ++ grantsOf (x.dropGrant k) n) := by
  have hperm := (dropGrant_perm h).filter (fun g => g.entry.owner == n)
  rw [List.filter_cons] at hperm
  simp only [beq_iff_eq] at hperm
  split at hperm
  · next howner => simpa [grantsOf, howner] using hperm
  · next howner => simpa [grantsOf, howner] using hperm

end Grants

/-! ### One station -/

section Station

variable {s t : State} {n : StationId}

/-- What one station's state is by its lifecycle, but for the grants that keep it Retiring: the station as it stands
before `retireIfLast` has looked at it. -/
structure StationSettled (s : State) (n : StationId) : Prop where
  quiet : (s.entry n).lifecycle ≠ .active → (s.entry n).held = false ∧ (s.entry n).dozing = false ∧ s.queue n = []
  absentCredit : (s.entry n).lifecycle = .absent → (s.account n).credit = 0
  groupAwake : (s.entry n).shadow.mode = .group → (s.entry n).dozing = false
  shadowAccepted : (s.entry n).lifecycle ≠ .absent → (s.entry n).shadow.accepted
  queueOwned : ∀ e ∈ s.queue n, e.owner = n
  backlogBound : (s.queue n).length + (stagedFor s n).isSome.toNat ≤ 255
  reservationSum : (s.account n).reservation = estimateSum s.laneA.issued n + estimateSum s.laneB.issued n

theorem StationSound.settled (h : StationSound s n) : StationSettled s n where
  quiet := h.quiet
  absentCredit := h.absentCredit
  groupAwake := h.groupAwake
  shadowAccepted := h.shadowAccepted
  queueOwned := h.queueOwned
  backlogBound := h.backlogBound
  reservationSum := h.reservationSum

theorem StationSettled.sound (h : StationSettled s n)
    (hretiring : (s.entry n).lifecycle = .retiring → 1 ≤ issuedCount (s.lane (s.entry n).shadow.lane) n) :
    StationSound s n where
  quiet := h.quiet
  absentCredit := h.absentCredit
  retiringIssued := hretiring
  groupAwake := h.groupAwake
  shadowAccepted := h.shadowAccepted
  queueOwned := h.queueOwned
  backlogBound := h.backlogBound
  reservationSum := h.reservationSum

/-- Of an Active station, the lifecycle asks nothing of the flags, the queue and the credit. -/
theorem stationSound_of_active (hactive : (t.entry n).lifecycle = .active)
    (hgroup : (t.entry n).shadow.mode = .group → (t.entry n).dozing = false) (haccepted : (t.entry n).shadow.accepted)
    (howned : ∀ e ∈ t.queue n, e.owner = n) (hbound : (t.queue n).length + (stagedFor t n).isSome.toNat ≤ 255)
    (hsum : (t.account n).reservation = estimateSum t.laneA.issued n + estimateSum t.laneB.issued n) :
    StationSound t n where
  quiet h := absurd hactive h
  absentCredit h := by simp [hactive] at h
  retiringIssued h := by simp [hactive] at h
  groupAwake := hgroup
  shadowAccepted _ := haccepted
  queueOwned := howned
  backlogBound := hbound
  reservationSum := hsum

/-- A station that keeps its entry, its queue, its staged frame, its grants and its reservation stays sound, and may
have its credit changed unless it is Absent. -/
theorem stationSound_of_same (h : StationSound s n) (hentry : t.entry n = s.entry n) (hqueue : t.queue n = s.queue n)
    (hreservation : (t.account n).reservation = (s.account n).reservation)
    (hcredit : (s.entry n).lifecycle = .absent → (t.account n).credit = (s.account n).credit)
    (hstaged : stagedFor t n = stagedFor s n) (hgrants : ∀ l, (grantsOf (t.lane l) n).Perm (grantsOf (s.lane l) n)) :
    StationSound t n := by
  have hA : estimateSum t.laneA.issued n = estimateSum s.laneA.issued n := estimateSum_congr (hgrants .a)
  have hB : estimateSum t.laneB.issued n = estimateSum s.laneB.issued n := estimateSum_congr (hgrants .b)
  refine StationSettled.sound ⟨?_, fun habsent => ?_, ?_, ?_, ?_, ?_, ?_⟩ fun hretiring => ?_
  · rw [hentry, hqueue]; exact h.quiet
  · rw [hentry] at habsent
    exact (hcredit habsent).trans (h.absentCredit habsent)
  · rw [hentry]; exact h.groupAwake
  · rw [hentry]; exact h.shadowAccepted
  · rw [hqueue]; exact h.queueOwned
  · rw [hqueue, hstaged]; exact h.backlogBound
  · rw [hreservation, hA, hB]; exact h.reservationSum
  · rw [hentry] at hretiring ⊢
    rw [issuedCount_congr (hgrants _)]
    exact h.retiringIssued hretiring

end Station

/-! ### All stations -/

section Stations

variable {s t : State} {n : StationId}

/-- The frame staged for a station depends on its entry and on the frames of its own that are staged. -/
theorem stagedFor_congr (hentry : t.entry n = s.entry n)
    (hstaged : ∀ l e, e.owner = n → ((t.lane l).staged = some e ↔ (s.lane l).staged = some e)) :
    stagedFor t n = stagedFor s n := by
  ext e
  rw [stagedFor_eq_some, stagedFor_eq_some, hentry]
  exact and_congr_left fun howner => hstaged _ e howner

/-- Every frame staged of a station is staged for it (R82). -/
theorem stagedFor_of_staged (hs : StationsSound s) {l : LaneId} {e : PoolEntry} (h : (s.lane l).staged = some e)
    (howner : e.owner = n) : stagedFor s n = some e := by
  subst howner
  obtain ⟨-, -, -, hlane⟩ := hs.staged l e h
  exact (stagedFor_eq_some s).2 ⟨hlane.symm ▸ h, rfl⟩

/-- A change of one station, of frames staged and of grants issued of that station alone. -/
theorem stationsSound_of_one (hs : StationsSound s) (hothers : OthersKept n s t)
    (hstaged : ∀ l e, e.owner ≠ n → ((t.lane l).staged = some e ↔ (s.lane l).staged = some e))
    (hgrants : ∀ l m, m ≠ n → (grantsOf (t.lane l) m).Perm (grantsOf (s.lane l) m))
    (hn : StationSound t n)
    (hnstaged : ∀ l e, (t.lane l).staged = some e → e.owner = n →
      (t.entry n).lifecycle = .active ∧ (t.entry n).held = false ∧ (t.entry n).dozing = false
        ∧ (t.entry n).shadow.lane = l)
    (hnissued : ∀ l, ∀ g ∈ (t.lane l).issued, g.entry.owner = n →
      (t.entry n).lifecycle ≠ .absent ∧ (t.entry n).shadow.lane = l) : StationsSound t := by
  refine ⟨fun m => ?station, fun l e he => ?staged, fun l g hg => ?issued⟩
  case station =>
    by_cases hm : m = n
    · exact hm ▸ hn
    · obtain ⟨hentry, haccount, hqueue⟩ := hothers m hm
      exact stationSound_of_same (hs.stations m) hentry hqueue (by rw [haccount]) (fun _ => by rw [haccount])
        (stagedFor_congr hentry fun l e howner => hstaged l e (howner ▸ hm)) fun l => hgrants l m hm
  case staged =>
    by_cases howner : e.owner = n
    · exact howner ▸ hnstaged l e he howner
    · rw [(hothers _ howner).1]
      exact hs.staged l e ((hstaged l e howner).1 he)
  case issued =>
    by_cases howner : g.entry.owner = n
    · exact howner ▸ hnissued l g hg howner
    · rw [(hothers _ howner).1]
      have hmem : g ∈ grantsOf (s.lane l) g.entry.owner := (hgrants l _ howner).subset (mem_grantsOf.2 ⟨hg, rfl⟩)
      exact hs.issued l g (mem_grantsOf.1 hmem).1

/-- A change of one station that touches no lane. -/
theorem stationsSound_of_write (hs : StationsSound s) (hothers : OthersKept n s t) (hlane : ∀ l, t.lane l = s.lane l)
    (hn : StationSound t n)
    (hnstaged : ∀ l e, (s.lane l).staged = some e → e.owner = n →
      (t.entry n).lifecycle = .active ∧ (t.entry n).held = false ∧ (t.entry n).dozing = false
        ∧ (t.entry n).shadow.lane = l)
    (hnissued : ∀ l, ∀ g ∈ (s.lane l).issued, g.entry.owner = n →
      (t.entry n).lifecycle ≠ .absent ∧ (t.entry n).shadow.lane = l) : StationsSound t := by
  refine stationsSound_of_one hs hothers (fun l e _ => by rw [hlane]) (fun l m _ => by rw [hlane]) hn
    (fun l e he => ?_) (fun l g hg => ?_)
  · rw [hlane] at he; exact hnstaged l e he
  · rw [hlane] at hg; exact hnissued l g hg

/-- A change that keeps every station, every staged slot and every issued list. -/
theorem stationsSound_of_same (hs : StationsSound s) (hentry : ∀ n, t.entry n = s.entry n)
    (hqueue : ∀ n, t.queue n = s.queue n) (hreservation : ∀ n, (t.account n).reservation = (s.account n).reservation)
    (hcredit : ∀ n, (s.entry n).lifecycle = .absent → (t.account n).credit = (s.account n).credit)
    (hstaged : ∀ l, (t.lane l).staged = (s.lane l).staged) (hissued : ∀ l, (t.lane l).issued = (s.lane l).issued) :
    StationsSound t := by
  refine ⟨fun n => ?station, fun l e he => ?staged, fun l g hg => ?issued⟩
  case station =>
    exact stationSound_of_same (hs.stations n) (hentry n) (hqueue n) (hreservation n) (hcredit n)
      (stagedFor_congr (hentry n) fun l e _ => by rw [hstaged])
      fun l => by rw [grantsOf, hissued]; exact .refl _
  case staged =>
    rw [hstaged] at he
    rw [hentry]
    exact hs.staged l e he
  case issued =>
    rw [hissued] at hg
    rw [hentry]
    exact hs.issued l g hg

end Stations

/-! ### The changes of one Active station -/

section Active

variable {s t : State} {n : StationId}

/-- A flag of an Active station written: `x` is the entry with it. -/
theorem stationsSound_setFlag (hs : StationsSound s) {x : StationEntry} (hactive : (s.entry n).lifecycle = .active)
    (hlife : x.lifecycle = (s.entry n).lifecycle) (hshadow : x.shadow = (s.entry n).shadow)
    (hgroup : x.shadow.mode = .group → x.dozing = false)
    (hflags : (stagedFor s n).isSome → (s.entry n).held = false → (s.entry n).dozing = false →
      x.held = false ∧ x.dozing = false) : StationsSound (s.setEntry n x) := by
  have hn := hs.stations n
  refine stationsSound_of_write (n := n) hs (by simp) (by simp) ?_ (fun l e he howner => ?_) (fun l g hg howner => ?_)
  · have hstaged : stagedFor (s.setEntry n x) n = stagedFor s n := by simp [stagedFor, hshadow]
    refine stationSound_of_active ?_ ?_ ?_ hn.queueOwned ?_ hn.reservationSum
    · rw [setEntry_entry_self, hlife, hactive]
    · rwa [setEntry_entry_self]
    · rw [setEntry_entry_self, hshadow]
      exact hn.shadowAccepted (by simp [hactive])
    · rw [hstaged]; exact hn.backlogBound
  · have hsome := stagedFor_of_staged hs he howner
    subst howner
    obtain ⟨hlife', hheld, hdozing, hlane⟩ := hs.staged l e he
    obtain ⟨hheld', hdozing'⟩ := hflags (by simp [hsome]) hheld hdozing
    rw [setEntry_entry_self]
    exact ⟨hlife.trans hlife', hheld', hdozing', hshadow ▸ hlane⟩
  · subst howner
    rw [setEntry_entry_self, hlife, hshadow]
    exact hs.issued l g hg

theorem stationsSound_setHeld (hs : StationsSound s) (b : Bool) (hactive : (s.entry n).lifecycle = .active)
    (hb : b = true → stagedFor s n = none) : StationsSound (setHeld n b s) := by
  refine stationsSound_setFlag hs hactive rfl rfl (hs.stations n).groupAwake fun hsome _ hdozing => ⟨?_, hdozing⟩
  cases b with
  | false => rfl
  | true => simp [hb rfl] at hsome

theorem stationsSound_setDozing (hs : StationsSound s) (b : Bool) (hactive : (s.entry n).lifecycle = .active)
    (hb : b = true → stagedFor s n = none ∧ (s.entry n).shadow.mode ≠ .group) : StationsSound (setDozing n b s) := by
  refine stationsSound_setFlag hs hactive rfl rfl (fun hmode => ?_) fun hsome hheld _ => ⟨hheld, ?_⟩
  · cases b with
    | false => rfl
    | true => exact absurd hmode (hb rfl).2
  · cases b with
    | false => rfl
    | true => simp [(hb rfl).1] at hsome

/-- An accepted POST keeps the backlog within the station's depth limit (R25, R30). -/
theorem stationsSound_appendPost (hs : StationsSound s) (r : Request) (hactive : (s.entry n).lifecycle = .active)
    (hbacklog : backlog s n < (s.entry n).shadow.depthLimit) : StationsSound (appendPost n r s) := by
  have hn := hs.stations n
  have haccepted := hn.shadowAccepted (by simp [hactive])
  obtain ⟨-, -, -, hlimit, -⟩ := id haccepted
  refine stationsSound_of_write (n := n) hs (by simp [appendPost]) (by simp [appendPost]) ?_ (fun l e he howner => ?_)
    (fun l g hg howner => ?_)
  · have hqueue : (appendPost n r s).queue n = s.queue n ++ [postedEntry n r s] := by simp [appendPost]
    refine stationSound_of_active hactive hn.groupAwake haccepted (fun e he => ?_) ?_ hn.reservationSum
    · rw [hqueue, List.mem_append, List.mem_singleton] at he
      exact he.elim (hn.queueOwned e) fun hnew => hnew ▸ rfl
    · have hstaged : stagedFor (appendPost n r s) n = stagedFor s n := rfl
      rw [hqueue, hstaged, List.length_append, List.length_singleton]
      unfold backlog at hbacklog
      omega
  · subst howner; exact hs.staged l e he
  · subst howner; exact hs.issued l g hg

/-- An activation takes an Absent entry, which has no frames and no grants (R8). -/
theorem stationsSound_activateStation (hs : StationsSound s) {x : Shadow} (habsent : (s.entry n).lifecycle = .absent)
    (hx : x.accepted) : StationsSound (activateStation n x s) := by
  have hn := hs.stations n
  obtain ⟨-, -, hempty⟩ := hn.quiet (by simp [habsent])
  have hnotStaged : ∀ l e, (s.lane l).staged = some e → e.owner ≠ n := by
    rintro l e he rfl
    have hactive := (hs.staged l e he).1
    rw [habsent] at hactive
    cases hactive
  have hnotIssued : ∀ l, ∀ g ∈ (s.lane l).issued, g.entry.owner ≠ n := by
    rintro l g hg rfl
    exact (hs.issued l g hg).1 habsent
  refine stationsSound_of_write (n := n) hs (by simp [activateStation]) (by simp [activateStation]) ?_
    (fun l e he howner => absurd howner (hnotStaged l e he)) (fun l g hg howner => absurd howner (hnotIssued l g hg))
  have hqueue : (activateStation n x s).queue n = [] := hempty
  have hentry : (activateStation n x s).entry n = { lifecycle := .active, held := false, dozing := false, shadow := x } := by
    simp [activateStation]
  refine stationSound_of_active (by rw [hentry]) (fun _ => by rw [hentry]) (by rw [hentry]; exact hx) (by simp [hqueue]) ?_ ?_
  · rw [hqueue]
    have hbool := (stagedFor (activateStation n x s) n).isSome.toNat_le
    simp only [List.length_nil]
    omega
  · have hA : estimateSum s.laneA.issued n = 0 := estimateSum_of_none (hnotIssued .a)
    have hB : estimateSum s.laneB.issued n = 0 := estimateSum_of_none (hnotIssued .b)
    have haccount : ((activateStation n x s).account n).reservation = 0 := by simp [activateStation]
    exact haccount.trans (by simp [activateStation, hA, hB])

/-- A rewrite changes the lane only of a station with no frame staged and no grant issued (R11, R14). -/
theorem stationsSound_rewriteStation (hs : StationsSound s) {x : Shadow} (hactive : (s.entry n).lifecycle = .active)
    (hx : x.accepted) (hlane : x.lane = (s.entry n).shadow.lane ∨ hasBacklog s n = false) :
    StationsSound (rewriteStation n x s) := by
  have hn := hs.stations n
  have hentry : (rewriteStation n x s).entry n
      = { s.entry n with shadow := x, dozing := (s.entry n).dozing && x.mode != .group } := by simp [rewriteStation]
  rw [hasBacklog_eq_false_iff] at hlane
  have hstagedLane : ∀ l e, (s.lane l).staged = some e → e.owner = n → x.lane = l := by
    intro l e he howner
    have hsome := stagedFor_of_staged hs he howner
    obtain hsame | ⟨-, hnone, -⟩ := hlane
    · subst howner
      exact hsame.trans (hs.staged l e he).2.2.2
    · simp [hsome] at hnone
  have hissuedLane : ∀ l, ∀ g ∈ (s.lane l).issued, g.entry.owner = n → x.lane = l := by
    intro l g hg howner
    subst howner
    have hl := (hs.issued l g hg).2
    obtain hsame | ⟨-, -, hnone⟩ := hlane
    · exact hsame.trans hl
    · rw [hl] at hnone
      exact absurd hnone (Nat.one_le_iff_ne_zero.1 (one_le_issuedCount hg rfl))
  refine stationsSound_of_write (n := n) hs (by simp [rewriteStation]) (by simp [rewriteStation]) ?_ (fun l e he howner => ?_)
    (fun l g hg howner => ?_)
  · refine stationSound_of_active (by rw [hentry]; exact hactive) (fun hmode => ?_) (by rw [hentry]; exact hx) hn.queueOwned ?_ ?_
    · rw [hentry] at hmode ⊢
      simp_all
    · have hstaged : (stagedFor (rewriteStation n x s) n).isSome → (stagedFor s n).isSome := by
        intro hsome
        obtain ⟨e, he⟩ := Option.isSome_iff_exists.1 hsome
        obtain ⟨hstaged, howner⟩ := (stagedFor_eq_some _).1 he
        simp only [rewriteStation, setAccount_lane, setEntry_lane] at hstaged
        rw [stagedFor_of_staged hs hstaged howner]
        rfl
      have hle := Bool.toNat_le_toNat hstaged
      have hbound := hn.backlogBound
      have hqueue : (rewriteStation n x s).queue n = s.queue n := rfl
      rw [hqueue]
      omega
    · have haccount : ((rewriteStation n x s).account n).reservation = (s.account n).reservation := by
        simp [rewriteStation, Account.clampTo]
      exact haccount.trans hn.reservationSum
  · have hsame := hstagedLane l e he howner
    subst howner
    obtain ⟨hlife, hheld, hdozing, -⟩ := hs.staged l e he
    rw [hentry]
    exact ⟨hlife, hheld, by simp [hdozing], hsame⟩
  · have hsame := hissuedLane l g hg howner
    subst howner
    rw [hentry]
    exact ⟨(hs.issued l g hg).1, hsame⟩

end Active

/-! ### Frames staged, withdrawn and freed -/

section Frames

variable {s : State} {n : StationId} {l : LaneId} {e : PoolEntry}

/-- A staged frame of an Active station goes back to its queue head, so the backlog stays as it is (R95). -/
theorem stationsSound_returnToHead (hs : StationsSound s) (he : (s.lane l).staged = some e) :
    StationsSound (returnToHead e (clearStaged l s)) := by
  have hn := hs.stations e.owner
  obtain ⟨hactive, -, -, hown⟩ := hs.staged l e he
  have hlane : ∀ k, (returnToHead e (clearStaged l s)).lane k = if k = l then { s.lane l with staged := none } else s.lane k := by
    simp [returnToHead, clearStaged, setLane_lane]
  have hqueue : (returnToHead e (clearStaged l s)).queue e.owner = e :: s.queue e.owner := by
    simp [returnToHead, clearStaged]
  have hentry : ∀ m, (returnToHead e (clearStaged l s)).entry m = s.entry m := by simp [returnToHead, clearStaged]
  have haccount : ∀ m, (returnToHead e (clearStaged l s)).account m = s.account m := by simp [returnToHead, clearStaged]
  have hissued : ∀ k, ((returnToHead e (clearStaged l s)).lane k).issued = (s.lane k).issued := fun k => by
    rw [hlane]
    split
    · next hk => rw [hk]
    · rfl
  have hstaged : ∀ k e', ((returnToHead e (clearStaged l s)).lane k).staged = some e' → (s.lane k).staged = some e' := by
    intro k e' h
    rw [hlane] at h
    split at h
    · cases h
    · exact h
  refine stationsSound_of_one (n := e.owner) hs (by simp [returnToHead, clearStaged]) (fun k e' hne => ⟨hstaged k e', fun h => ?_⟩)
    (fun k m _ => by rw [grantsOf, hissued]; exact .refl _) ?_ (fun k e' h howner => ?_) (fun k g hg howner => ?_)
  · rw [hlane, if_neg]
    · exact h
    · rintro rfl
      rw [he] at h
      cases h
      exact hne rfl
  · have hnone : stagedFor (returnToHead e (clearStaged l s)) e.owner = none := by
      simp [stagedFor, hentry, hown, hlane]
    have hsome : stagedFor s e.owner = some e := stagedFor_of_staged hs he rfl
    have hbound := hn.backlogBound
    have hA : (returnToHead e (clearStaged l s)).laneA.issued = s.laneA.issued := hissued .a
    have hB : (returnToHead e (clearStaged l s)).laneB.issued = s.laneB.issued := hissued .b
    refine stationSound_of_active (by rw [hentry, hactive]) (by rw [hentry]; exact hn.groupAwake)
      (by rw [hentry]; exact hn.shadowAccepted (by simp [hactive])) ?_ ?_ (by rw [haccount, hA, hB]; exact hn.reservationSum)
    · rw [hqueue]
      exact List.forall_mem_cons.2 ⟨rfl, hn.queueOwned⟩
    · rw [hqueue, hnone]
      simpa [hsome] using hbound
  · rw [hentry, ← howner]
    exact hs.staged k e' (hstaged k e' h)
  · rw [hissued] at hg
    rw [hentry, ← howner]
    exact hs.issued k g hg

/-- An Active station whose backlog is freed holds no frame (R34, R96). -/
theorem stationsSound_freeBacklog (hs : StationsSound s) (hactive : (s.entry n).lifecycle = .active) :
    StationsSound (freeBacklog n s) := by
  have hn := hs.stations n
  have hstaged : ∀ k e', ((freeBacklog n s).lane k).staged = some e' → (s.lane k).staged = some e' := by
    intro k e' h
    rw [freeBacklog_lane] at h
    split at h
    · cases h
    · exact h
  refine stationsSound_of_one (n := n) hs (freeBacklog_othersKept s n) (fun k e' hne => ⟨hstaged k e', fun h => ?_⟩)
    (fun k m _ => by rw [grantsOf, freeBacklog_issued]; exact .refl _) ?_ (fun k e' h howner => ?_) (fun k g hg howner => ?_)
  · rw [freeBacklog_lane, if_neg]
    · exact h
    · rintro ⟨rfl, hsome⟩
      obtain ⟨e, he⟩ := Option.isSome_iff_exists.1 hsome
      obtain ⟨he, howner⟩ := (stagedFor_eq_some s).1 he
      rw [h] at he
      cases he
      exact hne howner
  · have hA : (freeBacklog n s).laneA.issued = s.laneA.issued := freeBacklog_issued s n .a
    have hB : (freeBacklog n s).laneB.issued = s.laneB.issued := freeBacklog_issued s n .b
    refine stationSound_of_active (by simpa using hactive) (by simpa using hn.groupAwake)
      (by simpa using hn.shadowAccepted (by simp [hactive])) (by simp) (by simp [stagedFor_freeBacklog]) ?_
    rw [freeBacklog_account, hA, hB]
    exact hn.reservationSum
  · rw [freeBacklog_entry, ← howner]
    exact hs.staged k e' (hstaged k e' h)
  · rw [freeBacklog_issued] at hg
    rw [freeBacklog_entry, ← howner]
    exact hs.issued k g hg

/-- A staging takes the head of a ready station's queue into the empty slot, so the backlog stays as it is (R91). -/
theorem stationsSound_stage (hs : StationsSound s) (moved : Option ServiceClass) (hready : Ready s l n)
    (hslot : (s.lane l).staged = none) : StationsSound (stage l n moved s) := by
  have hn := hs.stations n
  obtain ⟨hactive, hheld, hdozing, hown, hqueue⟩ := hready
  obtain ⟨e, rest, hqueue⟩ := List.exists_cons_of_ne_nil hqueue
  have howner : e.owner = n := hn.queueOwned e (by simp [hqueue])
  rw [stage_of_queue hqueue]
  generalize hy : ({ (s.lane l).movePointer moved n with staged := some e } : Lane) = y
  have hystaged : y.staged = some e := by rw [← hy]
  have hyissued : y.issued = (s.lane l).issued := by rw [← hy]; exact (movePointer_parts ..).2
  have hissued : ∀ k, (((s.setLane l y).setQueue n rest).lane k).issued = (s.lane k).issued := fun k => by
    rw [setQueue_lane, setLane_lane]
    split
    · next hk => rw [hyissued, hk]
    · rfl
  have hstaged : ∀ k e', (((s.setLane l y).setQueue n rest).lane k).staged = some e' ↔
      k = l ∧ e' = e ∨ (s.lane k).staged = some e' := fun k e' => by
    rw [setQueue_lane, setLane_lane]
    split
    · next hk => simp [hk, hystaged, hslot, eq_comm]
    · next hk => simp [hk]
  refine stationsSound_of_one (n := n) hs (by simp) (fun k e' hne => ?_)
    (fun k m _ => by rw [grantsOf, hissued]; exact .refl _) ?_ (fun k e' h howner' => ?_) (fun k g hg howner' => ?_)
  · rw [hstaged]
    exact or_iff_right fun ⟨_, he⟩ => hne (he ▸ howner)
  · have hA : ((s.setLane l y).setQueue n rest).laneA.issued = s.laneA.issued := hissued .a
    have hB : ((s.setLane l y).setQueue n rest).laneB.issued = s.laneB.issued := hissued .b
    have hbool := (stagedFor ((s.setLane l y).setQueue n rest) n).isSome.toNat_le
    have hbound := hn.backlogBound
    have howned := hn.queueOwned
    rw [hqueue] at hbound howned
    refine stationSound_of_active (by simpa using hactive) (by simpa using hn.groupAwake)
      (by simpa using hn.shadowAccepted (by simp [hactive])) ?_ ?_ ?_
    · rw [setQueue_queue_self]
      exact (List.forall_mem_cons.1 howned).2
    · rw [setQueue_queue_self]
      rw [List.length_cons] at hbound
      omega
    · rw [hA, hB, setQueue_account, setLane_account]
      exact hn.reservationSum
  · rw [setQueue_entry, setLane_entry]
    obtain ⟨rfl, -⟩ | h := (hstaged k e').1 h
    · exact ⟨hactive, hheld, hdozing, hown⟩
    · exact howner' ▸ hs.staged k e' h
  · rw [hissued] at hg
    rw [setQueue_entry, setLane_entry, ← howner']
    exact hs.issued k g hg

end Frames

/-! ### The issue and the end of a grant -/

section GrantChanges

variable {s u : State} {n : StationId} {l : LaneId} {e : PoolEntry} {g : Grant}

/-- An issue moves the charge of its grant into the station's reservation (R50, R112). -/
theorem stationsSound_issueGrant (hs : StationsSound s) (he : (s.lane l).staged = some e) :
    StationsSound (issueGrant l e s) := by
  have hn := hs.stations e.owner
  obtain ⟨hactive, -, -, hown⟩ := hs.staged l e he
  have hlane : ∀ k, (issueGrant l e s).lane k = if k = l then (s.lane l).issue (newGrant l e s) else s.lane k := by
    simp [issueGrant, preChargeStation, setLane_lane]
  have hentry : ∀ m, (issueGrant l e s).entry m = s.entry m := by simp [issueGrant, preChargeStation]
  have hqueue : ∀ m, (issueGrant l e s).queue m = s.queue m := by simp [issueGrant, preChargeStation]
  have hreservation : ((issueGrant l e s).account e.owner).reservation
      = (s.account e.owner).reservation + (newGrant l e s).estimate := by
    simp [issueGrant, preChargeStation, Account.preCharge]
  have hstaged : ∀ k e', ((issueGrant l e s).lane k).staged = some e' → (s.lane k).staged = some e' := by
    intro k e' h
    rw [hlane] at h
    split at h
    · cases h
    · exact h
  refine stationsSound_of_one (n := e.owner) hs (by simp [issueGrant, preChargeStation])
    (fun k e' hne => ⟨hstaged k e', fun h => ?_⟩) (fun k m hm => ?_) ?_ (fun k e' h howner => ?_) (fun k g hg howner => ?_)
  · rw [hlane, if_neg]
    · exact h
    · rintro rfl
      rw [he] at h
      cases h
      exact hne rfl
  · rw [hlane]
    split
    · next hk =>
      have hother : ¬(newGrant l e s).entry.owner = m := fun h => hm h.symm
      rw [hk, grantsOf_issue, if_neg hother, List.append_nil]
    · exact .refl _
  · have hsum : estimateSum (issueGrant l e s).laneA.issued e.owner + estimateSum (issueGrant l e s).laneB.issued e.owner
        = estimateSum s.laneA.issued e.owner + estimateSum s.laneB.issued e.owner + (newGrant l e s).estimate := by
      have hnew : estimateSum ((s.lane l).issue (newGrant l e s)).issued e.owner
          = estimateSum (s.lane l).issued e.owner + (newGrant l e s).estimate := by
        rw [estimateSum_eq_sum, estimateSum_eq_sum, grantsOf_issue, if_pos (show (newGrant l e s).entry.owner = e.owner from rfl)]
        simp
      have hA : (issueGrant l e s).laneA = _ := hlane .a
      have hB : (issueGrant l e s).laneB = _ := hlane .b
      rw [hA, hB]
      cases l
      · rw [if_pos rfl, if_neg (by simp), hnew]
        exact Nat.add_right_comm _ _ _
      · rw [if_neg (by simp), if_pos rfl, hnew]
        exact (Nat.add_assoc _ _ _).symm
    have hbound := hn.backlogBound
    refine stationSound_of_active (by rw [hentry, hactive]) (by rw [hentry]; exact hn.groupAwake)
      (by rw [hentry]; exact hn.shadowAccepted (by simp [hactive])) (by rw [hqueue]; exact hn.queueOwned) ?_ ?_
    · have hnone : stagedFor (issueGrant l e s) e.owner = none := by
        simp [stagedFor, hentry, hown, hlane, Lane.issue]
      rw [hqueue, hnone]
      simp only [Option.isSome_none, Bool.toNat_false]
      omega
    · rw [hreservation, hsum, hn.reservationSum]
  · rw [hentry, ← howner]
    exact hs.staged k e' (hstaged k e' h)
  · rw [hentry]
    rw [hlane] at hg
    split at hg
    · next hk =>
      subst hk
      exact ⟨by simp [hactive], hown⟩
    · rw [← howner]
      exact hs.issued k g hg

@[simp] theorem othersKept_retireIfLast : OthersKept n s (retireIfLast l n u) ↔ OthersKept n s u := by
  obtain ⟨-, -, h⟩ | ⟨-, h⟩ := retireIfLast_cases u l n <;> rw [h]
  simp [becomeAbsent]

/-- A Retiring station with no grant left in its lane becomes Absent, and every other settled station is sound. -/
theorem stationSound_retireIfLast (h : StationSettled u n)
    (hlane : (u.entry n).lifecycle = .retiring → (u.entry n).shadow.lane = l) : StationSound (retireIfLast l n u) n := by
  obtain ⟨hretiring, -, hlast⟩ | ⟨hnot, hkept⟩ := retireIfLast_cases u l n
  · rw [hlast]
    have hentry : (becomeAbsent n u).entry n = { u.entry n with lifecycle := .absent } := by simp [becomeAbsent_entry]
    have haccount : (becomeAbsent n u).account n = (u.account n).close := by simp [becomeAbsent_account]
    have hstaged : stagedFor (becomeAbsent n u) n = stagedFor u n := by simp [stagedFor, hentry]
    refine StationSettled.sound ⟨fun _ => ?_, fun _ => ?_, ?_, fun habsent => ?_, ?_, ?_, ?_⟩ fun hretiring' => ?_
    · rw [hentry, becomeAbsent_queue]; exact h.quiet (by simp [hretiring])
    · rw [haccount]; rfl
    · rw [hentry]; exact h.groupAwake
    · rw [hentry] at habsent; exact absurd rfl habsent
    · rw [becomeAbsent_queue]; exact h.queueOwned
    · rw [becomeAbsent_queue, hstaged]; exact h.backlogBound
    · rw [haccount]; exact h.reservationSum
    · rw [hentry] at hretiring'; cases hretiring'
  · rw [hkept]
    refine h.sound fun hretiring => ?_
    rw [hlane hretiring]
    exact Nat.one_le_iff_ne_zero.2 fun hzero => hnot ⟨hretiring, hzero⟩

/-- A station with a grant issued in the lane does not become Absent. -/
theorem lifecycle_retireIfLast_ne_absent (h : (u.entry n).lifecycle ≠ .absent) (hg : g ∈ (u.lane l).issued)
    (howner : g.entry.owner = n) : ((retireIfLast l n u).entry n).lifecycle ≠ .absent := by
  obtain ⟨-, hzero, -⟩ | ⟨-, hkept⟩ := retireIfLast_cases u l n
  · exact absurd hzero (Nat.one_le_iff_ne_zero.1 (one_le_issuedCount hg howner))
  · rwa [hkept]

theorem entry_retireIfLast_of_active (h : (u.entry n).lifecycle = .active) :
    (retireIfLast l n u).entry n = u.entry n := by
  obtain ⟨hretiring, -, -⟩ | ⟨-, hkept⟩ := retireIfLast_cases u l n
  · simp [h] at hretiring
  · rw [hkept]

/-- An Active station without backlog that leaves service is Retiring while it has grants, else Absent (R15, R18). -/
theorem stationsSound_leaveService (hs : StationsSound s) (hqueue : s.queue n = []) (hstaged : stagedFor s n = none)
    (hactive : (s.entry n).lifecycle = .active) : StationsSound (leaveService n s) := by
  have hn := hs.stations n
  unfold leaveService
  generalize hu : s.setEntry n { s.entry n with lifecycle := .retiring, held := false, dozing := false } = u
  have hentry : u.entry n = { s.entry n with lifecycle := .retiring, held := false, dozing := false } := by simp [← hu]
  have hlane : ∀ k, u.lane k = s.lane k := by simp [← hu]
  have huqueue : u.queue n = [] := by simpa [← hu] using hqueue
  have haccount : u.account n = s.account n := by simp [← hu]
  refine stationsSound_of_write (n := n) hs (by simp [← hu]) (by simp [hlane]) ?_ (fun k e he howner => ?_) (fun k g hg howner => ?_)
  · refine stationSound_retireIfLast ⟨fun _ => ?_, fun h => ?_, fun _ => ?_, fun _ => ?_, ?_, ?_, ?_⟩ fun _ => ?_
    · exact ⟨by rw [hentry], by rw [hentry], huqueue⟩
    · rw [hentry] at h; cases h
    · rw [hentry]
    · rw [hentry]; exact hn.shadowAccepted (by simp [hactive])
    · simp [huqueue]
    · have hbool := (stagedFor u n).isSome.toNat_le
      rw [huqueue, List.length_nil]
      omega
    · have hA : u.laneA = s.laneA := hlane .a
      have hB : u.laneB = s.laneB := hlane .b
      rw [haccount, hA, hB]
      exact hn.reservationSum
    · rw [hentry]
  · rw [stagedFor_of_staged hs he howner] at hstaged
    cases hstaged
  · have hown : (s.entry n).shadow.lane = k := howner ▸ (hs.issued k g hg).2
    refine ⟨lifecycle_retireIfLast_ne_absent (by simp [hentry]) (by rw [hlane, hown]; exact hg) howner, ?_⟩
    rw [retireIfLast_shadow, hentry]
    exact hown

/-- The end of a grant takes its estimate out of the reservation, and a Retiring station may end with it (R126, R132). -/
theorem stationsSound_endGrant (hs : StationsSound s) {a : Account} (hfind : (s.lane l).grantAt g.slot = some g)
    (hreservation : a.reservation = (s.account g.entry.owner).reservation - g.estimate) : StationsSound (endGrant l g a s) := by
  have hn := hs.stations g.entry.owner
  have hmem := (grantAt_some hfind).1
  obtain ⟨hpresent, hown⟩ := hs.issued l g hmem
  unfold endGrant
  generalize hu : releaseGrant l g (s.setAccount g.entry.owner a) = u
  have hlane : ∀ k, u.lane k = if k = l then (s.lane l).dropGrant g.slot else s.lane k := by simp [← hu]
  have hentry : ∀ m, u.entry m = s.entry m := by simp [← hu]
  have hqueue : ∀ m, u.queue m = s.queue m := by simp [← hu]
  have haccount : u.account g.entry.owner = a := by simp [← hu]
  have hstaged : ∀ k, (u.lane k).staged = (s.lane k).staged := fun k => by
    rw [hlane]
    split
    · next hk => rw [hk]; rfl
    · rfl
  have hissued : ∀ k, (u.lane k).issued ⊆ (s.lane k).issued := fun k => by
    rw [hlane]
    split
    · next hk => rw [hk]; exact List.eraseP_subset
    · exact List.Subset.refl _
  refine stationsSound_of_one (n := g.entry.owner) hs (by simp [← hu])
    (fun k e' _ => by rw [retireIfLast_lane, hstaged]) (fun k m hm => ?_) ?_ (fun k e' h howner => ?_)
    (fun k g' hg' howner => ?_)
  · rw [retireIfLast_lane, hlane]
    split
    · next hk =>
      have hperm := grantsOf_dropGrant (n := m) hfind
      rw [if_neg hm.symm, List.nil_append] at hperm
      exact hk ▸ hperm.symm
    · exact .refl _
  · have hsum : estimateSum u.laneA.issued g.entry.owner + estimateSum u.laneB.issued g.entry.owner + g.estimate
        = estimateSum s.laneA.issued g.entry.owner + estimateSum s.laneB.issued g.entry.owner := by
      have hdrop : estimateSum (s.lane l).issued g.entry.owner
          = g.estimate + estimateSum ((s.lane l).dropGrant g.slot).issued g.entry.owner := by
        have hperm := grantsOf_dropGrant (n := g.entry.owner) hfind
        rw [if_pos rfl] at hperm
        rw [estimateSum_eq_sum, estimateSum_eq_sum, (hperm.map _).sum_eq]
        rfl
      have hA : u.laneA = _ := hlane .a
      have hB : u.laneB = _ := hlane .b
      rw [hA, hB]
      cases l <;> simp only [State.lane, reduceCtorEq, if_true, if_false] at hdrop ⊢ <;> omega
    have hstagedFor : stagedFor u g.entry.owner = stagedFor s g.entry.owner :=
      stagedFor_congr (hentry _) fun k e' _ => by rw [hstaged]
    refine stationSound_retireIfLast ⟨?_, fun h => ?_, ?_, ?_, ?_, ?_, ?_⟩ fun _ => by rw [hentry]; exact hown
    · rw [hentry, hqueue]; exact hn.quiet
    · rw [hentry] at h; exact absurd h hpresent
    · rw [hentry]; exact hn.groupAwake
    · rw [hentry]; exact hn.shadowAccepted
    · rw [hqueue]; exact hn.queueOwned
    · rw [hqueue, hstagedFor]; exact hn.backlogBound
    · rw [haccount, hreservation, hn.reservationSum]
      omega
  · rw [retireIfLast_lane, hstaged] at h
    have hfacts := hs.staged k e' h
    rw [howner, ← hentry] at hfacts
    rwa [entry_retireIfLast_of_active hfacts.1]
  · rw [retireIfLast_lane] at hg'
    have hlane' : (s.entry g.entry.owner).shadow.lane = k := howner ▸ (hs.issued k g' (hissued k hg')).2
    have hk : k = l := hlane'.symm.trans hown
    refine ⟨lifecycle_retireIfLast_ne_absent (by rwa [hentry]) (hk ▸ hg') howner, ?_⟩
    rw [retireIfLast_shadow, hentry]
    exact hlane'

end GrantChanges

/-! ### Every change -/

section Changes

variable {s t : State}

/-- With no frame staged and no grant issued, the stations alone have to be sound. -/
theorem stationsSound_of_empty (hstation : ∀ n, StationSettled s n) (hretiring : ∀ n, (s.entry n).lifecycle ≠ .retiring)
    (hstaged : ∀ l, (s.lane l).staged = none) (hissued : ∀ l, (s.lane l).issued = []) : StationsSound s where
  stations n := (hstation n).sound fun h => absurd h (hretiring n)
  staged l e he := by simp [hstaged] at he
  issued l g hg := by simp [hissued] at hg

/-- With queues, staged slots and issued lists empty, no backlog and no reservation is left. -/
theorem stationSettled_of_empty {n : StationId} (hqueue : s.queue n = []) (hstaged : ∀ l, (s.lane l).staged = none)
    (hissued : ∀ l, (s.lane l).issued = []) (hcredit : (s.account n).credit = 0) (hreservation : (s.account n).reservation = 0)
    (hflags : (s.entry n).lifecycle ≠ .active → (s.entry n).held = false ∧ (s.entry n).dozing = false)
    (hgroup : (s.entry n).shadow.mode = .group → (s.entry n).dozing = false)
    (haccepted : (s.entry n).lifecycle ≠ .absent → (s.entry n).shadow.accepted) : StationSettled s n where
  quiet h := ⟨(hflags h).1, (hflags h).2, hqueue⟩
  absentCredit _ := hcredit
  groupAwake := hgroup
  shadowAccepted := haccepted
  queueOwned := by simp [hqueue]
  backlogBound := by simp [hqueue, stagedFor, hstaged]
  reservationSum := by
    have hA : s.laneA.issued = [] := hissued .a
    have hB : s.laneB.issued = [] := hissued .b
    rw [hA, hB, hreservation]
    rfl

/-- A scheduler clear makes Retiring stations Absent and leaves nothing queued, staged or issued (R153). -/
theorem stationsSound_schedulerClear (hs : StationsSound s) : StationsSound (schedulerClear s) := by
  have hstaged : ∀ l, ((schedulerClear s).lane l).staged = none := fun l => by
    rw [schedulerClear_lane]; exact (clear_parts _).1
  have hissued : ∀ l, ((schedulerClear s).lane l).issued = [] := fun l => by
    rw [schedulerClear_lane]; exact (clear_parts _).2
  refine stationsSound_of_empty (fun n => ?_) (fun n => ?_) hstaged hissued
  · have hn := hs.stations n
    refine stationSettled_of_empty (schedulerClear_queue s n) hstaged hissued ?_ ?_ ?_ ?_ ?_
    · rw [schedulerClear_account]; rfl
    · rw [schedulerClear_account]; rfl
    all_goals
      rw [schedulerClear_entry]
      split
    · next h => exact fun _ => ⟨(hn.quiet (by simp [h])).1, (hn.quiet (by simp [h])).2.1⟩
    · exact fun h => ⟨(hn.quiet h).1, (hn.quiet h).2.1⟩
    · exact hn.groupAwake
    · exact hn.groupAwake
    · exact fun h => absurd rfl h
    · exact hn.shadowAccepted
  · rw [schedulerClear_entry]
    split
    · simp
    · assumption

theorem stationsSound_takePowerOnReset (s : State) : StationsSound (takePowerOnReset s) := by
  have hstaged : ∀ l, ((takePowerOnReset s).lane l).staged = none := by simp [Lane.reset]
  have hissued : ∀ l, ((takePowerOnReset s).lane l).issued = [] := by simp [Lane.reset]
  refine stationsSound_of_empty (fun n => ?_) (by simp [StationEntry.reset]) hstaged hissued
  exact stationSettled_of_empty (by simp) hstaged hissued (by simp [Account.reset]) (by simp [Account.reset])
    (by simp [StationEntry.reset]) (by simp [StationEntry.reset]) (by simp [StationEntry.reset])

theorem stationsSound_refillGroup (hs : StationsSound s) (l : LaneId) (g : Fin 32) : StationsSound (refillGroup l g s) := by
  refine stationsSound_of_same hs (fun _ => rfl) (fun _ => rfl) (fun n => ?_) (fun n habsent => ?_)
    (by simp) (by simp)
  · rw [refillGroup_account]
    split <;> rfl
  · rw [refillGroup_account, if_neg]
    simp [refilled_iff, habsent]

theorem change_keeps_stations (h : Change s t) (hs : StationsSound s) : StationsSound t := by
  cases h with
  | link | latch | count | leastFree | settings =>
    exact stationsSound_of_same hs (fun _ => rfl) (fun _ => rfl) (fun _ => rfl) (fun _ _ => rfl)
      (fun l => by cases l <;> rfl) (fun l => by cases l <;> rfl)
  | clear => exact stationsSound_schedulerClear hs
  | lane l y hstaged hissued =>
    refine stationsSound_of_same hs (by simp) (by simp) (by simp) (by simp) (fun k => ?_) (fun k => ?_)
    all_goals
      rw [setLane_lane]
      split
    · next hk => rw [hstaged, hk]
    · rfl
    · next hk => rw [hissued, hk]
    · rfl
  | refill l g => exact stationsSound_refillGroup hs l g
  | held n b hactive hb => exact stationsSound_setHeld hs b hactive hb
  | dozing n b hactive hb => exact stationsSound_setDozing hs b hactive hb
  | unstage l e he => exact stationsSound_returnToHead hs he
  | free n hactive => exact stationsSound_freeBacklog hs hactive
  | leave n hactive hqueue hstaged => exact stationsSound_leaveService hs hqueue hstaged hactive
  | activate n x habsent hx => exact stationsSound_activateStation hs habsent hx
  | rewrite n x hactive hx hlane => exact stationsSound_rewriteStation hs hactive hx hlane
  | append n r hactive hbacklog => exact stationsSound_appendPost hs r hactive hbacklog
  | stage l n moved hready hslot => exact stationsSound_stage hs moved hready hslot
  | issue l e he => exact stationsSound_issueGrant hs he
  | endGrant l g a hfind hreservation => exact stationsSound_endGrant hs hfind hreservation

end Changes

/-! ### The statements -/

/-- Settles O58: every change of a station keeps what its lifecycle asks for, and every other station as it is. -/
theorem everyStepKeepsStationsSound : Obligations.EveryStepKeepsStationsSound := fun _ _ hs hstep =>
  step_keeps stationsSound_takePowerOnReset (fun _ _ => change_keeps_stations)
    (fun _ _ _ _ h => stationsSound_of_same h (fun _ => rfl) (fun _ => rfl) (fun _ => rfl) (fun _ _ => rfl)
      (fun l => by cases l <;> rfl) (fun l => by cases l <;> rfl)) hs hstep

/-- Settles O60: a power-on reset of the reset state is that state, so what every reset gives it has. -/
theorem resetIsSound : Obligations.ResetIsSound := by
  have hreset : takePowerOnReset State.reset = State.reset := rfl
  obtain ⟨hwatermark, hdiffer⟩ := probeSettingsSound_takePowerOnReset State.reset
  exact {
    pool := hreset ▸ poolConserved_takePowerOnReset State.reset
    leastFree := hreset ▸ leastFreeBelow_takePowerOnReset State.reset
    credits := hreset ▸ creditsBounded_takePowerOnReset State.reset
    sources := hdiffer
    settings := ⟨fun l => by rw [reset_lane]; exact settingsInRange_reset, hwatermark⟩
    issued := fun l => by rw [reset_lane]; exact issuedInWindow_of_empty rfl
    lanes := fun l => by rw [reset_lane]; exact restsByState_goOff (x := Lane.reset) rfl
    stations := hreset ▸ stationsSound_takePowerOnReset State.reset }

end Sys2Proof.Machine
end

section
/-! PROOFS. The enable set decides nothing but the drive of ATTN_N and an ATTENTION probe's report of it (R157): two
states that differ in the enable set, or in it and the link's traffic, stay so under every operation. -/

namespace Sys2Proof.Machine

open Sys2Proof

/-! ### Two states that differ in the enable set and the traffic -/

/-- The second state is the first with another enable set and other traffic on the link; the traffic is the same where
`kept` holds. -/
def Mirror (kept : Prop) (s t : State) : Prop :=
  ∃ enabled down outstanding up,
    t = { s with enabled := enabled, down := down, outstanding := outstanding, up := up }
      ∧ (kept → down = s.down ∧ outstanding = s.outstanding ∧ up = s.up)

theorem mirror_true_iff {s t : State} : Mirror True s t ↔ SameButEnableSet s t := by
  constructor
  · rintro ⟨enabled, down, outstanding, up, rfl, hlink⟩
    obtain ⟨rfl, rfl, rfl⟩ := hlink trivial
    rfl
  · intro h
    rw [SameButEnableSet] at h
    rw [← h]
    exact ⟨t.enabled, t.down, t.outstanding, t.up, rfl, fun _ => ⟨rfl, rfl, rfl⟩⟩

theorem mirror_false_iff {s t : State} : Mirror False s t ↔ SameButEnables s t := by
  constructor
  · rintro ⟨enabled, down, outstanding, up, rfl, -⟩
    rfl
  · intro h
    rw [SameButEnables] at h
    rw [← h]
    exact ⟨t.enabled, t.down, t.outstanding, t.up, rfl, False.elim⟩

namespace Mirror

variable {kept : Prop} {s t : State}

/-! ### What the operations read -/

section Reads

variable (h : Mirror kept s t) (l : LaneId) (n : StationId)
include h

theorem lane : t.lane l = s.lane l := by obtain ⟨_, _, _, _, rfl, -⟩ := h; cases l <;> rfl
theorem entry : t.entry n = s.entry n := by obtain ⟨_, _, _, _, rfl, -⟩ := h; rfl
theorem account : t.account n = s.account n := by obtain ⟨_, _, _, _, rfl, -⟩ := h; rfl
theorem queue : t.queue n = s.queue n := by obtain ⟨_, _, _, _, rfl, -⟩ := h; rfl
theorem free : t.free = s.free := by obtain ⟨_, _, _, _, rfl, -⟩ := h; rfl
theorem freeCount : t.freeCount = s.freeCount := congrArg List.length h.free
theorem count : t.count = s.count := by obtain ⟨_, _, _, _, rfl, -⟩ := h; rfl
theorem base : t.base = s.base := by obtain ⟨_, _, _, _, rfl, -⟩ := h; rfl
theorem watermark : t.watermark = s.watermark := by obtain ⟨_, _, _, _, rfl, -⟩ := h; rfl
theorem stagedFor : stagedFor t n = stagedFor s n := by simp only [Machine.stagedFor, h.entry, h.lane]
theorem lifecycleCheck : lifecycleCheck t n = lifecycleCheck s n := by simp only [Machine.lifecycleCheck, h.entry]
theorem backlog : backlog t n = backlog s n := by simp only [Machine.backlog, h.queue, h.stagedFor]

theorem hasBacklog : hasBacklog t n = hasBacklog s n := by
  simp only [Machine.hasBacklog, h.queue, h.stagedFor, h.entry, h.lane]

theorem postCheck (len : Nat) : postCheck t n len = postCheck s n len := by
  simp only [Machine.postCheck, h.lifecycleCheck, h.entry, h.backlog, h.freeCount]

theorem radioOf (source : BitVec 4) : radioOf t source = radioOf s source := by
  obtain ⟨_, _, _, _, rfl, -⟩ := h; rfl

theorem classify (r : Request) : classify t r = classify s r := by
  unfold Machine.classify
  rw [h.base, h.radioOf]

theorem stationSnapshot : stationSnapshot t n = stationSnapshot s n := by
  simp only [Machine.stationSnapshot, h.entry, h.account, h.stagedFor, h.lane, h.queue]

theorem laneSnapshot : laneSnapshot t l = laneSnapshot s l := by
  obtain ⟨_, _, _, _, rfl, -⟩ := h; cases l <;> rfl

theorem poolSnapshot : poolSnapshot t = poolSnapshot s := by obtain ⟨_, _, _, _, rfl, -⟩ := h; rfl

theorem newGrant (e : PoolEntry) : newGrant l e t = newGrant l e s := by
  simp only [Machine.newGrant, h.lane, h.entry, h.count]

theorem ready : ready t l = ready s l := funext fun n => by simp only [Machine.ready, h.entry, h.queue]

theorem scan (c : ServiceClass) (p : StationId) : scan t l c p = scan s l c p := by
  have hcandidate : candidate t l c = candidate s l c := funext fun n => by
    simp only [candidate, h.ready, classOf, h.entry, h.account]
  rw [Machine.scan, hcandidate, Machine.scan]

theorem fallback : fallback t l = fallback s l := by
  have hbetter : betterOf t = betterOf s := funext fun best => funext fun n => by
    cases best <;> simp only [betterOf, h.account]
  rw [Machine.fallback, hbetter, h.ready, Machine.fallback]

theorem winner : winner t l = winner s l := by
  unfold Machine.winner
  rw [h.lane]
  dsimp only
  rw [h.scan, h.scan, h.fallback]

end Reads

/-! ### What the operations write -/

section Writes

/-- An update that looks at neither the enable set nor the traffic, and keeps both. -/
theorem map (h : Mirror kept s t) (f : State → State)
    (hcomm : ∀ (s : State) enabled down outstanding up,
      f { s with enabled := enabled, down := down, outstanding := outstanding, up := up }
        = { f s with enabled := enabled, down := down, outstanding := outstanding, up := up })
    (hlink : LinkKept s (f s)) : Mirror kept (f s) (f t) := by
  obtain ⟨enabled, down, outstanding, up, rfl, hkept⟩ := h
  obtain ⟨hdown, houtstanding, hup⟩ := hlink
  exact ⟨enabled, down, outstanding, up, hcomm .., by rwa [hdown, houtstanding, hup]⟩

variable (h : Mirror kept s t) (l : LaneId) (n : StationId)
include h

theorem setLane (x : Lane) : Mirror kept (s.setLane l x) (t.setLane l x) :=
  h.map (fun s => s.setLane l x) (fun _ _ _ _ _ => by cases l <;> rfl) (by simp)
theorem setEntry (x : StationEntry) : Mirror kept (s.setEntry n x) (t.setEntry n x) :=
  h.map (fun s => s.setEntry n x) (fun _ _ _ _ _ => rfl) (by simp)
theorem setAccount (x : Account) : Mirror kept (s.setAccount n x) (t.setAccount n x) :=
  h.map (fun s => s.setAccount n x) (fun _ _ _ _ _ => rfl) (by simp)
theorem setQueue (x : List PoolEntry) : Mirror kept (s.setQueue n x) (t.setQueue n x) :=
  h.map (fun s => s.setQueue n x) (fun _ _ _ _ _ => rfl) (by simp)
theorem setFree (x : List Nat) : Mirror kept (s.setFree x) (t.setFree x) :=
  h.map (fun s => s.setFree x) (fun _ _ _ _ _ => rfl) (by simp)
theorem popFree : Mirror kept s.popFree t.popFree := h.map State.popFree (fun _ _ _ _ _ => rfl) (by simp)
theorem latch (c : Cause) : Mirror kept (s.latch c) (t.latch c) :=
  h.map (fun s => s.latch c) (fun _ _ _ _ _ => rfl) (by simp)
theorem latchIf (b : Bool) (c : Cause) : Mirror kept (s.latchIf b c) (t.latchIf b c) := by
  cases b
  · exact h
  · exact h.latch c
theorem pushFree (id : Nat) : Mirror kept (s.pushFree id) (t.pushFree id) := by
  unfold State.pushFree
  rw [h.free]
  exact h.setFree _

theorem send (r : Request) (answer : Option (List Word)) : Mirror kept (s.send r answer) (t.send r answer) := by
  obtain ⟨enabled, down, outstanding, up, rfl, hkept⟩ := h
  refine ⟨enabled, _, _, up, rfl, fun hk => ?_⟩
  obtain ⟨rfl, rfl, rfl⟩ := hkept hk
  exact ⟨rfl, rfl, rfl⟩

theorem forward (r : Request) : Mirror kept (s.forward r) (t.forward r) := h.send r none

theorem refillGroup (g : Fin 32) : Mirror kept (refillGroup l g s) (refillGroup l g t) :=
  h.map (Machine.refillGroup l g) (fun _ _ _ _ _ => by cases l <;> rfl) (by simp)
theorem schedulerClear : Mirror kept (schedulerClear s) (schedulerClear t) :=
  h.map Machine.schedulerClear (fun _ _ _ _ _ => rfl) ⟨rfl, rfl, rfl⟩
theorem advanceCount : Mirror kept (advanceCount s) (advanceCount t) :=
  h.map Machine.advanceCount (fun _ _ _ _ _ => rfl) ⟨rfl, rfl, rfl⟩
theorem setLeastFree : Mirror kept { s with leastFree := s.freeCount } { t with leastFree := t.freeCount } :=
  h.map (fun s => { s with leastFree := s.freeCount }) (fun _ _ _ _ _ => rfl) ⟨rfl, rfl, rfl⟩
theorem clearLatched : Mirror kept { s with latched := 0 } { t with latched := 0 } :=
  h.map (fun s => { s with latched := 0 }) (fun _ _ _ _ _ => rfl) ⟨rfl, rfl, rfl⟩
theorem setBase (b : Option Word) : Mirror kept { s with base := b } { t with base := b } :=
  h.map (fun s => { s with base := b }) (fun _ _ _ _ _ => rfl) ⟨rfl, rfl, rfl⟩

/-- A record's settings give both states its own enable set (R152). -/
theorem takeGlobalSettings (r : Request) : Mirror kept (takeGlobalSettings r s) (takeGlobalSettings r t) := by
  obtain ⟨_, down, outstanding, up, rfl, hkept⟩ := h
  exact ⟨globalEnables r, down, outstanding, up, rfl, hkept⟩

end Writes

/-! ### Stations and queues (chapters 1 and 2) -/

section StationOps

variable (h : Mirror kept s t) (l : LaneId) (n : StationId) (r : Request)
include h

theorem clearStaged : Mirror kept (clearStaged l s) (clearStaged l t) := by
  unfold Machine.clearStaged
  rw [h.lane]
  exact h.setLane l _

theorem returnToHead (e : PoolEntry) : Mirror kept (returnToHead e s) (returnToHead e t) := by
  unfold Machine.returnToHead
  rw [h.queue]
  exact h.setQueue _ _

theorem withdrawToHead : Mirror kept (withdrawToHead n s) (withdrawToHead n t) := by
  unfold Machine.withdrawToHead
  rw [h.stagedFor, h.entry]
  split
  · exact (h.clearStaged _).returnToHead _
  · exact h

theorem withdrawLane : Mirror kept (withdrawLane l s) (withdrawLane l t) := by
  unfold Machine.withdrawLane
  rw [h.lane]
  split
  · exact (h.clearStaged l).returnToHead _
  · exact h

theorem withdrawToFree : Mirror kept (withdrawToFree n s) (withdrawToFree n t) := by
  unfold Machine.withdrawToFree
  rw [h.stagedFor, h.entry]
  split
  · exact (h.clearStaged _).pushFree _
  · exact h

theorem freeBacklog : Mirror kept (freeBacklog n s) (freeBacklog n t) := by
  have hfreed := h.withdrawToFree n
  unfold Machine.freeBacklog
  dsimp only
  rw [pushAll_eq, pushAll_eq, hfreed.queue, hfreed.free]
  exact (hfreed.setFree _).setQueue n _

theorem becomeAbsent : Mirror kept (becomeAbsent n s) (becomeAbsent n t) := by
  unfold Machine.becomeAbsent
  rw [h.entry, h.account]
  exact (h.setEntry n _).setAccount n _

theorem retireIfLast : Mirror kept (retireIfLast l n s) (retireIfLast l n t) := by
  unfold Machine.retireIfLast
  rw [h.entry, h.lane]
  split
  · exact h.becomeAbsent n
  · exact h

theorem retireStation : Mirror kept (retireStation n s) (retireStation n t) := by
  have hfreed := h.freeBacklog n
  unfold Machine.retireStation
  dsimp only
  rw [hfreed.entry, setEntry_entry_self, setEntry_entry_self]
  exact (hfreed.setEntry n _).retireIfLast _ n

theorem refuseStation (code : ResultCode) : Mirror kept (refuseStation code r s) (refuseStation code r t) :=
  (h.latch _).forward _

theorem takeStationRecord : Mirror kept (takeStationRecord n r s) (takeStationRecord n r t) := by
  unfold Machine.takeStationRecord
  dsimp only
  rw [h.entry, h.hasBacklog]
  split
  · exact h.refuseStation r _
  · split
    · exact h.refuseStation r _
    · exact ((h.setEntry n _).setAccount n _).forward _
  · split
    · exact h.refuseStation r _
    · split
      · exact h.refuseStation r _
      · unfold rewriteStation
        rw [h.entry, h.account]
        exact ((h.setEntry n _).setAccount n _).forward _

theorem takeRemoval : Mirror kept (takeRemoval n r s) (takeRemoval n r t) := by
  unfold Machine.takeRemoval
  rw [h.entry]
  split
  · exact h.refuseStation r _
  · exact h.forward _
  · exact (h.retireStation n).forward _

theorem answerPost (code : ResultCode) : Mirror kept (answerPost code n r s) (answerPost code n r t) := by
  unfold Machine.answerPost
  rw [h.queue, h.freeCount]
  exact h.forward _

theorem refusePost (code : ResultCode) : Mirror kept (refusePost code n r s) (refusePost code n r t) :=
  (h.latch _).answerPost n r code

theorem setHeld (b : Bool) : Mirror kept (setHeld n b s) (setHeld n b t) := by
  unfold Machine.setHeld
  rw [h.entry]
  exact h.setEntry n _

theorem setDozing (b : Bool) : Mirror kept (setDozing n b s) (setDozing n b t) := by
  unfold Machine.setDozing
  rw [h.entry]
  exact h.setEntry n _

theorem appendPost : Mirror kept (appendPost n r s) (appendPost n r t) := by
  unfold Machine.appendPost postedEntry
  rw [h.queue, h.free]
  exact h.popFree.setQueue n _

theorem wakeOnPost : Mirror kept (wakeOnPost n r s) (wakeOnPost n r t) := by
  unfold Machine.wakeOnPost
  split
  · exact h.setDozing n false
  · exact h

theorem takePost : Mirror kept (takePost n r s) (takePost n r t) := by
  unfold Machine.takePost crossesLow
  rw [h.postCheck, h.watermark, h.freeCount]
  split
  · exact h.refusePost n r _
  · exact (((h.appendPost n r).wakeOnPost n r).latchIf _ _).answerPost n r _

theorem takeFlush : Mirror kept (takeFlush n r s) (takeFlush n r t) := by
  unfold Machine.takeFlush
  rw [h.lifecycleCheck]
  split
  · exact h.refusePost n r _
  · exact (h.freeBacklog n).answerPost n r _

theorem takeHold : Mirror kept (takeHold n r s) (takeHold n r t) := by
  unfold Machine.takeHold
  rw [h.lifecycleCheck]
  split
  · exact h.refusePost n r _
  · exact ((h.setHeld n true).withdrawToHead n).answerPost n r _

theorem takeRelease : Mirror kept (takeRelease n r s) (takeRelease n r t) := by
  unfold Machine.takeRelease
  rw [h.lifecycleCheck]
  split
  · exact h.refusePost n r _
  · exact (h.setHeld n false).answerPost n r _

theorem takeDoze : Mirror kept (takeDoze n r s) (takeDoze n r t) := by
  unfold Machine.takeDoze
  rw [h.lifecycleCheck, h.entry]
  split
  · exact h.refusePost n r _
  · split
    · exact h.refusePost n r _
    · exact ((h.setDozing n true).withdrawToHead n).answerPost n r _

theorem takeWake : Mirror kept (takeWake n r s) (takeWake n r t) := by
  unfold Machine.takeWake
  rw [h.lifecycleCheck]
  split
  · exact h.refusePost n r _
  · exact (h.setDozing n false).answerPost n r _

end StationOps

/-! ### Control records, rings and completions (chapters 6, 7 and 9) -/

section LaneOps

variable (h : Mirror kept s t) (l : LaneId) (k : Slot) (r : Request)
include h

theorem takeGlobalControl : Mirror kept (takeGlobalControl r s) (takeGlobalControl r t) := by
  unfold Machine.takeGlobalControl
  split
  · exact (h.latch _).forward _
  · exact (h.takeGlobalSettings r).forward _

theorem takeLaneSettings : Mirror kept (takeLaneSettings l r s) (takeLaneSettings l r t) := by
  unfold Machine.takeLaneSettings
  rw [h.lane]
  exact h.setLane l _

theorem applyEnable : Mirror kept (applyEnable l r s) (applyEnable l r t) := by
  unfold Machine.applyEnable
  rw [h.lane]
  dsimp only
  split
  · exact h.setLane l _
  · exact h
  · exact h.setLane l _

theorem applyDisable : Mirror kept (applyDisable l s) (applyDisable l t) := by
  have hwithdrawn := h.withdrawLane l
  unfold Machine.applyDisable
  dsimp only
  rw [h.lane, hwithdrawn.lane]
  split
  · exact h
  · split <;> exact hwithdrawn.setLane l _
  · split
    · exact h.setLane l _
    · exact h

theorem answerLane : Mirror kept (answerLane l r s) (answerLane l r t) := by
  unfold Machine.answerLane
  rw [h.lane]
  exact h.forward _

theorem preChargeStation (n : StationId) (estimate : Nat) :
    Mirror kept (preChargeStation n estimate s) (preChargeStation n estimate t) := by
  unfold Machine.preChargeStation
  rw [h.account]
  exact (h.setAccount n _).latchIf _ _

theorem issueGrant (e : PoolEntry) : Mirror kept (issueGrant l e s) (issueGrant l e t) := by
  unfold Machine.issueGrant
  rw [h.newGrant, h.lane]
  exact (h.setLane l _).preChargeStation _ _

theorem readExpected : Mirror kept (readExpected l r s) (readExpected l r t) := by
  unfold Machine.readExpected
  simp only [h.lane, h.newGrant]
  split
  · split
    · exact (h.issueGrant l _).send _ _
    · exact h.send _ _
  · exact h.send _ _

theorem takeRingRead (whole : Bool) : Mirror kept (takeRingRead l k whole r s) (takeRingRead l k whole r t) := by
  unfold Machine.takeRingRead
  rw [h.lane]
  dsimp only
  split
  · exact h.forward _
  · exact (h.latch _).forward _
  · exact (h.latch _).forward _
  · split
    · exact h.readExpected l r
    · split
      · exact h.send _ _
      · exact (h.latch _).send _ _
  · split <;> exact h.send _ _

theorem releaseGrant (g : Grant) : Mirror kept (releaseGrant l g s) (releaseGrant l g t) := by
  unfold Machine.releaseGrant
  rw [h.lane]
  exact (h.setLane l _).pushFree _

theorem drainIfEmpty : Mirror kept (drainIfEmpty l s) (drainIfEmpty l t) := by
  unfold Machine.drainIfEmpty
  rw [h.lane]
  split
  · exact h.setLane l _
  · exact h

theorem correctStation (g : Grant) (airtime : Nat) (outcome : FrameOutcome) :
    Mirror kept (correctStation g airtime outcome s) (correctStation g airtime outcome t) := by
  unfold Machine.correctStation
  dsimp only
  rw [h.account, h.entry]
  exact (h.setAccount _ _).latchIf _ _

theorem matchedCompletion (g : Grant) (outcome : FrameOutcome) :
    Mirror kept (matchedCompletion l g outcome r s) (matchedCompletion l g outcome r t) := by
  have hcorrected := h.correctStation g (completionAirtime r) outcome
  unfold Machine.matchedCompletion
  dsimp only
  rw [hcorrected.account]
  exact (((hcorrected.releaseGrant l g).retireIfLast l _).drainIfEmpty l).forward _

theorem noted (note : Word) (c : Cause) :
    Mirror kept (answerCompletion r note (s.latch c)) (answerCompletion r note (t.latch c)) := (h.latch c).forward _

theorem classifyCompletion (outcome : FrameOutcome) :
    Mirror kept (classifyCompletion l k outcome r s) (classifyCompletion l k outcome r t) := by
  unfold Machine.classifyCompletion
  rw [h.lane]
  split
  · split
    · exact h.matchedCompletion l r _ outcome
    · exact h.noted r _ _
  · split
    · split <;> exact h.noted r _ _
    · exact h.noted r _ _

theorem takeCompletion (whole : Bool) : Mirror kept (takeCompletion l k whole r s) (takeCompletion l k whole r t) := by
  unfold Machine.takeCompletion
  rw [h.lane]
  split
  · exact h.forward _
  · split
    · exact (h.latch _).forward _
    · split
      · exact h.classifyCompletion l k r _
      · exact h.noted r _ _

end LaneOps

/-! ### Requests on the link -/

section Requests

variable (h : Mirror kept s t) (r : Request)
include h

theorem takeRequest (hrow : Machine.classify s r ≠ .attentionProbe) : Mirror kept (takeRequest r s) (takeRequest r t) := by
  unfold Machine.takeRequest
  rw [h.classify]
  cases hs : Machine.classify s r with
  | passThrough => exact h.forward r
  | partialWrite => exact (h.latch _).forward r
  | stationRecord n => exact h.takeStationRecord n r
  | removal n => exact h.takeRemoval n r
  | post n => exact h.takePost n r
  | flush n => exact h.takeFlush n r
  | hold n => exact h.takeHold n r
  | release n => exact h.takeRelease n r
  | doze n => exact h.takeDoze n r
  | wake n => exact h.takeWake n r
  | badCommand n => exact h.refusePost n r _
  | globalControl => exact h.takeGlobalControl r
  | schedulerClear => exact (h.takeGlobalSettings r).schedulerClear.forward _
  | laneEnable l => exact ((h.takeLaneSettings l r).applyEnable l r).answerLane l r
  | laneDisable l => exact ((h.takeLaneSettings l r).applyDisable l).answerLane l r
  | stationProbe n =>
    dsimp only [takeStationProbe]
    rw [h.stationSnapshot]
    exact h.forward _
  | laneProbe l =>
    dsimp only [takeLaneProbe]
    rw [h.laneSnapshot]
    exact h.forward _
  | poolProbe =>
    dsimp only [takePoolProbe]
    rw [h.poolSnapshot]
    exact h.setLeastFree.forward _
  | attentionProbe => exact absurd hs hrow
  | badProbe => exact (h.latch _).forward _
  | ringRead l k whole => exact h.takeRingRead l k r whole
  | completion l k whole => exact h.takeCompletion l k r whole

end Requests

/-- What goes out on the link cannot matter to two states whose traffic may differ. -/
theorem forward_forward (h : Mirror False s t) (r r' : Request) : Mirror False (s.forward r) (t.forward r') := by
  obtain ⟨enabled, _, _, up, rfl, -⟩ := h
  exact ⟨enabled, _, _, up, rfl, False.elim⟩

/-- An ATTENTION probe reports the enable set, which its traffic then shows, and clears the same causes (R161). -/
theorem takeRequest_traffic (h : Mirror False s t) (r : Request) :
    Mirror False (Machine.takeRequest r s) (Machine.takeRequest r t) := by
  by_cases hrow : Machine.classify s r = .attentionProbe
  · rw [takeRequest_attentionProbe r s hrow, takeRequest_attentionProbe r t ((h.classify r).trans hrow)]
    exact h.clearLatched.forward_forward _ _
  · exact h.takeRequest r hrow

/-! ### Events of the part -/

section Events

variable (h : Mirror kept s t) (l : LaneId) (k : Slot)
include h

theorem takeRefillExpiry : Mirror kept (takeRefillExpiry l s) (takeRefillExpiry l t) := by
  unfold Machine.takeRefillExpiry
  rw [h.lane]
  dsimp only
  split
  · split
    · exact h.setLane l _
    · split
      · exact h.setLane l _
      · exact (h.setLane l _).latch _
  · exact h

theorem takeSweepVisit : Mirror kept (takeSweepVisit l s) (takeSweepVisit l t) := by
  unfold Machine.takeSweepVisit
  rw [h.lane]
  dsimp only
  split
  · exact (h.refillGroup l _).setLane l _
  · exact h

theorem takePhaseExpiry : Mirror kept (takePhaseExpiry l s) (takePhaseExpiry l t) := by
  unfold Machine.takePhaseExpiry
  rw [h.lane]
  dsimp only
  split
  · exact h.setLane l _
  · exact h

theorem dropReservation (n : StationId) (estimate : Nat) :
    Mirror kept (dropReservation n estimate s) (dropReservation n estimate t) := by
  unfold Machine.dropReservation
  rw [h.account]
  exact h.setAccount n _

theorem recordExpired (g : Grant) : Mirror kept (recordExpired l g s) (recordExpired l g t) := by
  unfold Machine.recordExpired
  rw [h.lane]
  exact h.setLane l _

theorem expireGrant (g : Grant) : Mirror kept (expireGrant l g s) (expireGrant l g t) :=
  (((((h.dropReservation _ _).releaseGrant l g).recordExpired l g).latch _).retireIfLast l _).drainIfEmpty l

theorem takeGrantExpiry : Mirror kept (takeGrantExpiry l k s) (takeGrantExpiry l k t) := by
  unfold Machine.takeGrantExpiry
  rw [h.lane, h.count]
  split
  · split
    · exact h.expireGrant l _
    · exact h
  · exact h

omit h in
theorem foldl_takeGrantExpiry (ks : List Slot) (h : Mirror kept s t) :
    Mirror kept (ks.foldl (fun u k => Machine.takeGrantExpiry l k u) s)
      (ks.foldl (fun u k => Machine.takeGrantExpiry l k u) t) := by
  induction ks generalizing s t with
  | nil => exact h
  | cons k ks ih => exact ih (h.takeGrantExpiry l k)

theorem takeDue : Mirror kept (takeDue l s) (takeDue l t) := by
  unfold Machine.takeDue
  rw [h.lane]
  exact (((foldl_takeGrantExpiry l _ h).takeSweepVisit l).takeRefillExpiry l).takePhaseExpiry l

theorem takeTick : Mirror kept (takeTick s) (takeTick t) := by
  unfold Machine.takeTick
  rw [h.base]
  split
  · exact h
  · exact ((h.takeDue .a).takeDue .b).advanceCount

theorem takeStaging : Mirror kept (takeStaging l s) (takeStaging l t) := by
  unfold Machine.takeStaging stage
  simp only [h.lane, h.winner, h.queue]
  split
  · split
    · exact (h.setLane l _).setQueue _ _
    · exact h
  · exact h

theorem takeResetEnd (wbase : BitVec 8) : Mirror kept (takeResetEnd wbase s) (takeResetEnd wbase t) := by
  unfold Machine.takeResetEnd
  rw [h.base]
  split
  · exact h.setBase _
  · exact h

theorem takePowerOnReset : Mirror kept (takePowerOnReset s) (takePowerOnReset t) := by
  obtain ⟨_, down, outstanding, up, rfl, hkept⟩ := h
  exact ⟨0, down, outstanding, up, rfl, hkept⟩

end Events

/-- A response touches the traffic alone, and the same traffic in the same way (R149). -/
theorem takeResponse (h : Mirror kept s t) (i : Nat) (status : Status) (words : List Word) :
    Mirror kept (takeResponse i status words s) (takeResponse i status words t) := by
  obtain ⟨enabled, down, outstanding, up, rfl, hkept⟩ := h
  by_cases hk : kept
  · obtain ⟨rfl, rfl, rfl⟩ := hkept hk
    unfold Machine.takeResponse
    dsimp only
    split
    · exact ⟨enabled, _, _, _, rfl, fun _ => ⟨rfl, rfl, rfl⟩⟩
    · exact ⟨enabled, _, _, _, rfl, fun _ => ⟨rfl, rfl, rfl⟩⟩
  · unfold Machine.takeResponse
    dsimp only
    split <;> split <;> exact ⟨enabled, _, _, _, rfl, fun h => absurd h hk⟩

/-! ### Every command -/

variable {c : Instr} {s' t' : State}

/-- An event of the part takes two such states to two such states. -/
theorem exec_event (h : Mirror kept s t) (hc : requestOf c = none) (hs : exec c s = .next s') (ht : exec c t = .next t') :
    Mirror kept s' t' := by
  cases c
  case powerOnReset => cases hs; cases ht; exact h.takePowerOnReset
  case resetEnd wbase => cases hs; cases ht; exact h.takeResetEnd wbase
  case timebaseTick => cases hs; cases ht; exact h.takeTick
  case refillExpiry l => cases hs; cases ht; exact h.takeRefillExpiry l
  case sweepVisit l => cases hs; cases ht; exact h.takeSweepVisit l
  case phaseExpiry l => cases hs; cases ht; exact h.takePhaseExpiry l
  case grantExpiry l k => cases hs; cases ht; exact h.takeGrantExpiry l k
  case stagingDecision l => cases hs; cases ht; exact h.takeStaging l
  case readResponse i status words => cases hs; cases ht; exact h.takeResponse i status words
  all_goals cases hc

/-- A command takes two such states to two such states where the requests they carry do. -/
theorem exec_of_request (h : Mirror kept s t)
    (hrequest : ∀ r, requestOf c = some r → Mirror kept (Machine.takeRequest r s) (Machine.takeRequest r t))
    (hs : exec c s = .next s') (ht : exec c t = .next t') : Mirror kept s' t' := by
  cases hreq : requestOf c with
  | none => exact h.exec_event hreq hs ht
  | some r =>
    rw [exec_of_requestOf r _ c hreq] at hs ht
    cases hs
    cases ht
    exact hrequest r hreq

end Mirror

/-! ### The statement -/

/-- Settles O53: no operation but an ATTENTION probe's snapshot reads the enable set, and none but a response reads the
traffic. -/
theorem enablesDecideNothingElse : Obligations.EnablesDecideNothingElse := by
  intro c s t s' t' hs ht
  refine ⟨fun hrow hsame => ?enableSet, fun hsame => ?traffic⟩
  case enableSet =>
    rw [← mirror_true_iff] at hsame ⊢
    exact hsame.exec_of_request (fun r hreq => hsame.takeRequest r (hrow r hreq)) hs ht
  case traffic =>
    rw [← mirror_false_iff] at hsame ⊢
    exact hsame.exec_of_request (fun r _ => hsame.takeRequest_traffic r) hs ht

end Sys2Proof.Machine
end

section
/-! PROOFS. Steps, commands and reset: a step runs the front command, every command completes (section 8.1), what a
power-on reset and the end of reset give (R20, R142), and that a latched cause stays (R156). -/

namespace Sys2Proof.Machine

open Sys2Proof

/-! ### Commands complete -/

section Commands

variable (c : Instr) {s t : State}

theorem exists_exec_eq_next (s : State) : ∃ t, exec c s = .next t := by
  cases hreq : requestOf c with
  | some r => exact ⟨_, exec_of_requestOf r s c hreq⟩
  | none => cases c <;> cases hreq <;> exact ⟨_, rfl⟩

/-- No change touches the window base or the queue of commands. -/
theorem change_keeps_base_pending (h : Change s t) : t.base = s.base ∧ t.pending = s.pending := by
  obtain ⟨r, -, rfl⟩ | ⟨k, hbase, -, -, -, -, -, hpending⟩ := change_control h
  · exact ⟨rfl, rfl⟩
  · exact ⟨hbase, hpending⟩

theorem Changes.base_pending (h : Changes s t) : t.base = s.base ∧ t.pending = s.pending :=
  h.keeps (P := fun u => u.base = s.base ∧ u.pending = s.pending)
    (fun _ _ hchange hu =>
      ⟨(change_keeps_base_pending hchange).1.trans hu.1, (change_keeps_base_pending hchange).2.trans hu.2⟩) ⟨rfl, rfl⟩

variable {c}

theorem exec_pending (h : exec c s = .next t) : t.pending = s.pending := by
  obtain ⟨-, rfl⟩ | ⟨wbase, -, rfl⟩ | ⟨r, -, -, rfl⟩ | hrun := exec_cases h
  · rfl
  · unfold takeResetEnd
    split <;> rfl
  · rfl
  · exact hrun.base_pending.2

/-- Out of reset only a power-on reset touches the window base (R142). -/
theorem exec_base {b : Word} (hbase : s.base = some b) (hc : c ≠ .powerOnReset) (h : exec c s = .next t) :
    t.base = some b := by
  obtain ⟨rfl, -⟩ | ⟨wbase, -, rfl⟩ | ⟨r, -, -, rfl⟩ | hrun := exec_cases h
  · exact absurd rfl hc
  · simp only [takeResetEnd, hbase]
  · exact hbase
  · exact hrun.base_pending.1.trans hbase

end Commands

/-! ### Latched causes (R156) -/

section Latched

variable {s t : State} {i : Nat}

@[simp] theorem retireIfLast_latched (s : State) (l : LaneId) (n : StationId) : (retireIfLast l n s).latched = s.latched := by
  obtain ⟨-, -, h⟩ | ⟨-, h⟩ := retireIfLast_cases s l n <;> rw [h]; rfl

theorem latchIf_keeps_latched (b : Bool) (c : Cause) (hs : s.latched.getLsbD i = true) :
    (s.latchIf b c).latched.getLsbD i = true := by
  cases b
  · exact hs
  · simp [hs]

/-- A change latches causes and clears none. -/
theorem change_keeps_latched (h : Change s t) (hs : s.latched.getLsbD i = true) : t.latched.getLsbD i = true := by
  cases h with
  | link | count | leastFree | settings | clear | refill | held | dozing | activate | rewrite | append => exact hs
  | latch c => exact latchIf_keeps_latched true c hs
  | lane | unstage | stage => simpa [returnToHead, clearStaged, stage] using hs
  | free => rwa [freeBacklog_latched]
  | leave => simpa [leaveService] using hs
  | issue => exact latchIf_keeps_latched _ _ (by simpa using hs)
  | endGrant => simpa [endGrant] using hs

end Latched

/-! ### Reset (R142) -/

section Reset

variable {s : State} {r : Request}

theorem takeResetEnd_of_none (wbase : BitVec 8) (h : s.base = none) :
    takeResetEnd wbase s = { s with base := some (BitVec.ofNat 32 (wbase.toNat * 2 ^ 24)) } := by
  simp only [takeResetEnd, h, baseOfStraps]

theorem takeResetEnd_of_some (wbase : BitVec 8) {b : Word} (h : s.base = some b) : takeResetEnd wbase s = s := by
  simp only [takeResetEnd, h]

/-- In reset the part has no window, so no request has an owner (R142). -/
theorem classify_of_base_none (h : s.base = none) : classify s r = .passThrough := by
  simp only [classify, h]

theorem request_passed (c : Instr) (hreq : requestOf c = some r) (hrow : classify s r = .passThrough) :
    ∃ t, exec c s = .next t ∧ Passed r s t ∧ PartKept s t ∧ t.latched = s.latched := by
  refine ⟨takeRequest r s, exec_of_requestOf r s c hreq, ?_⟩
  rw [takeRequest_passThrough r s hrow]
  exact ⟨passed_forward r (.refl s), .refl s, rfl⟩

end Reset

/-! ### The statements -/

/-- Settles O52: every change keeps a latched cause, and the two commands that clear causes are left out. -/
theorem latchedCausesStay : Obligations.LatchedCausesStay := by
  intro c s t cause h hlatched hreset hprobe
  obtain ⟨rfl, -⟩ | ⟨wbase, -, rfl⟩ | ⟨r, hreq, hrow, -⟩ | hrun := exec_cases h
  · exact absurd rfl hreset
  · unfold takeResetEnd
    split <;> exact hlatched
  · exact absurd hrow (hprobe r hreq)
  · exact hrun.keeps (P := fun u => u.latched.getLsbD cause.bit = true) (fun _ _ => change_keeps_latched) hlatched

/-- Settles O4: only the end of reset reads the straps, only a power-on reset touches the base afterwards, and without
a base every request passes. -/
theorem windowBaseIsSampledAtResetEnd : Obligations.WindowBaseIsSampledAtResetEnd := by
  refine ⟨fun wbase s => ⟨fun hnone => ?sampled, fun b hsome => ?ignored⟩, fun c s t b hbase hc h => exec_base hbase hc h,
    fun s => ⟨_, rfl, rfl⟩, fun s c r hnone hreq => request_passed c hreq (classify_of_base_none hnone)⟩
  case sampled => exact congrArg _ (takeResetEnd_of_none wbase hnone)
  case ignored => exact congrArg _ (takeResetEnd_of_some wbase hsome)

/-- Settles O1: `step` is `exec` of the front command, or nothing. -/
theorem stepRunsFrontCommand : Obligations.StepRunsFrontCommand := fun _ => ⟨fun _ _ => rfl, rfl⟩

/-- Settles O2: every command answers a next state, by changes none of which touches the queue of commands. -/
theorem everyCommandCompletes : Obligations.EveryCommandCompletes := by
  intro c s
  obtain ⟨t, h⟩ := exists_exec_eq_next c s
  exact ⟨t, h, exec_pending h⟩

/-- Settles O3: a power-on reset puts `State.reset` in place of all but the traffic and the queue of commands. -/
theorem powerOnResetValues : Obligations.PowerOnResetValues := by
  intro s
  refine ⟨takePowerOnReset s, rfl, fun n => ⟨?entry, ?account, ?queue⟩, ?free, ?freeCount, fun l => ?lane, rfl, rfl, rfl,
    rfl, rfl, rfl, rfl, rfl, ?attention, ⟨rfl, rfl, rfl⟩, rfl⟩
  case entry => exact takePowerOnReset_entry s n
  case account => exact takePowerOnReset_account s n
  case queue => exact takePowerOnReset_queue s n
  case free => show resetFree = _; unfold resetFree; rfl
  case freeCount => exact length_resetFree
  case lane => exact takePowerOnReset_lane s l
  case attention => exact (by decide : ((0 : BitVec 11) &&& 0 != 0) = false)

end Sys2Proof.Machine
end

section
/-! PROOFS. The refusals of a station record (R2, R7) and of the post slot commands (R28 to R30), and what an accepted
FLUSH, HOLD, DOZE, RELEASE and WAKE do (R34 to R38, R95, R96). -/

namespace Sys2Proof.Machine

open Sys2Proof

/-! ### The refusals of a station record (R2) -/

section RecordRefusals

variable {s : State} {r : Request} {n : StationId}

theorem refuseStation_refused (code : ResultCode) :
    RecordRefused r (stationResult code false false false (readStationRecord r).generation) s (refuseStation code r s) :=
  ⟨passed_forward _ (latch_linkKept .recordRefused), latch_partKept .recordRefused, rfl⟩

/-- A record of the removal cell is a removal request (R3, R15). -/
theorem not_isRemovalCell (h : classify s r = .stationRecord n) :
    isRemovalCell (readStationRecord r).kind (readStationRecord r).mode = false := by
  obtain hrow | hrow | ⟨l, k, whole, hrow | hrow⟩ | ⟨region, hrow⟩ := classify_cases s r
  · cases h.symm.trans hrow
  · cases h.symm.trans hrow
  · cases h.symm.trans hrow
  · cases h.symm.trans hrow
  · have hevent : recordEvent r region = .stationRecord n := hrow.symm.trans h
    cases region with
    | stationRecord =>
      simp only [recordEvent] at hevent
      split at hevent
      · cases hevent
      · next hcell => exact Bool.eq_false_iff.2 hcell
    | globalControl | laneControl | probeBlock | postSlot => simp only [recordEvent] at hevent; split at hevent <;> cases hevent
    | ring | unnamed => cases hevent

/-- Kind 0 and mode 3 are the refused cells, once the removal cell is left out (R3). -/
theorem isRefusedCell_eq_true {k : KindCode} {m : ModeCode} (hremoval : isRemovalCell k m = false)
    (h : k = .none ∨ m = .invalid) : isRefusedCell k m = true := by
  obtain rfl | rfl := h
  · have hmode : m ≠ .unicastShared := by simpa [isRemovalCell] using hremoval
    simp [isRefusedCell, hmode]
  · simp [isRefusedCell]

theorem takeStationRecord_of_retiring (h : (s.entry n).lifecycle = .retiring) :
    takeStationRecord n r s = refuseStation .busy r s := by
  simp [takeStationRecord, h]

theorem takeStationRecord_of_refusedCell (h : (s.entry n).lifecycle ≠ .retiring)
    (hcell : isRefusedCell (readStationRecord r).kind (readStationRecord r).mode = true) :
    takeStationRecord n r s = refuseStation .badKind r s := by
  cases hlife : (s.entry n).lifecycle with
  | retiring => exact absurd hlife h
  | absent | active => simp [takeStationRecord, hlife, hcell]

theorem takeStationRecord_of_laneBusy (h : (s.entry n).lifecycle = .active) (hk : (readStationRecord r).kind ≠ .none)
    (hm : (readStationRecord r).mode ≠ .invalid) (hlane : (readStationRecord r).lane ≠ (s.entry n).shadow.lane)
    (hbacklog : hasBacklog s n = true) : takeStationRecord n r s = refuseStation .laneBusy r s := by
  simp [takeStationRecord, h, isRefusedCell_eq_false hk hm, hlane, hbacklog]

theorem hasBacklog_eq_true (h : s.queue n ≠ [] ∨ stagedFor s n ≠ none ∨ issuedCount (s.lane (s.entry n).shadow.lane) n ≠ 0) :
    hasBacklog s n = true := by
  rw [← Bool.not_eq_false, hasBacklog_eq_false_iff]
  rintro ⟨hqueue, hstaged, hissued⟩
  simp [hqueue, hstaged, hissued] at h

theorem stationRecord_refused {code : ResultCode} (hrow : classify s r = .stationRecord n)
    (htake : takeStationRecord n r s = refuseStation code r s) : ∃ t, exec (.stationRecordWrite r) s = .next t
      ∧ RecordRefused r (stationResult code false false false (readStationRecord r).generation) s t := by
  refine ⟨takeRequest r s, exec_stationRecordWrite r s, ?_⟩
  rw [takeRequest_stationRecord r s n hrow, htake]
  exact refuseStation_refused code

theorem removal_refused (hrow : classify s r = .removal n) (h : (s.entry n).lifecycle = .retiring) :
    ∃ t, exec (.removalRequest r) s = .next t
      ∧ RecordRefused r (stationResult .busy false false false (readStationRecord r).generation) s t := by
  refine ⟨takeRequest r s, exec_removalRequest r s, ?_⟩
  have htake : takeRemoval n r s = refuseStation .busy r s := by simp [takeRemoval, h]
  rw [takeRequest_removal r s n hrow, htake]
  exact refuseStation_refused .busy

end RecordRefusals

/-! ### The refusals of a post slot command (R29, R30) -/

section PostRefusals

variable {s : State} {r : Request} {n : StationId}

theorem refusePost_refused (code : ResultCode) : PostRefused r n code s (refusePost code n r s) :=
  ⟨passed_forward _ (latch_linkKept .postRefused), latch_partKept .postRefused, rfl⟩

/-- A command whose row takes it to a refusal. -/
theorem exec_refusePost {c : Instr} {code : ResultCode} (hreq : requestOf c = some r)
    (htake : takeRequest r s = refusePost code n r s) : ∃ t, exec c s = .next t ∧ PostRefused r n code s t :=
  ⟨_, (exec_of_requestOf r s c hreq).trans (congrArg _ htake), refusePost_refused code⟩

theorem lifecycleCheck_of_absent (h : (s.entry n).lifecycle = .absent) : lifecycleCheck s n = some .noStation := by
  simp only [lifecycleCheck, h]

theorem lifecycleCheck_of_retiring (h : (s.entry n).lifecycle = .retiring) : lifecycleCheck s n = some .retiring := by
  simp only [lifecycleCheck, h]

theorem lifecycleCheck_of_active (h : (s.entry n).lifecycle = .active) : lifecycleCheck s n = none :=
  (lifecycleCheck_eq_none_iff s n).2 h

theorem postCheck_of_lifecycle {code : ResultCode} (len : Nat) (h : lifecycleCheck s n = some code) :
    postCheck s n len = some code := by
  simp only [postCheck, h]

theorem takePost_of_refused {code : ResultCode} (h : postCheck s n (postLen r) = some code) :
    takePost n r s = refusePost code n r s := by
  simp only [takePost, h]

theorem post_refused {code : ResultCode} (hrow : classify s r = .post n) (h : postCheck s n (postLen r) = some code) :
    ∃ t, exec (.post r) s = .next t ∧ PostRefused r n code s t :=
  exec_refusePost rfl ((takeRequest_post r s n hrow).trans (takePost_of_refused h))

/-- FLUSH, HOLD, RELEASE, DOZE and WAKE are refused by the lifecycle alike (R34 to R38). -/
theorem queueCommand_refused {c : Instr} {code : ResultCode}
    (hc : c = .flush r ∧ classify s r = .flush n ∨ c = .hold r ∧ classify s r = .hold n
      ∨ c = .release r ∧ classify s r = .release n ∨ c = .doze r ∧ classify s r = .doze n
      ∨ c = .wake r ∧ classify s r = .wake n)
    (hcheck : lifecycleCheck s n = some code) : ∃ t, exec c s = .next t ∧ PostRefused r n code s t := by
  obtain ⟨rfl, hrow⟩ | ⟨rfl, hrow⟩ | ⟨rfl, hrow⟩ | ⟨rfl, hrow⟩ | ⟨rfl, hrow⟩ := hc
  · exact exec_refusePost rfl ((takeRequest_flush r s n hrow).trans (by simp only [takeFlush, hcheck]))
  · exact exec_refusePost rfl ((takeRequest_hold r s n hrow).trans (by simp only [takeHold, hcheck]))
  · exact exec_refusePost rfl ((takeRequest_release r s n hrow).trans (by simp only [takeRelease, hcheck]))
  · exact exec_refusePost rfl ((takeRequest_doze r s n hrow).trans (by simp only [takeDoze, hcheck]))
  · exact exec_refusePost rfl ((takeRequest_wake r s n hrow).trans (by simp only [takeWake, hcheck]))

end PostRefusals

/-! ### The commands of an Active station (R34 to R38) -/

section PostCommands

variable {s : State} {r : Request} {n : StationId}

theorem takeFlush_of_active (h : (s.entry n).lifecycle = .active) :
    takeFlush n r s = answerPost .accepted n r (freeBacklog n s) := by
  simp only [takeFlush, lifecycleCheck_of_active h]

theorem takeHold_of_active (h : (s.entry n).lifecycle = .active) : takeHold n r s =
    answerPost .accepted n r ((withdrawToHead n s).setEntry n { s.entry n with held := true }) := by
  simp only [takeHold, lifecycleCheck_of_active h, setHeld]
  exact congrArg _ (withdrawToHead_setEntry s n _ (by rfl))

theorem takeDoze_of_active (h : (s.entry n).lifecycle = .active) (hmode : (s.entry n).shadow.mode ≠ .group) :
    takeDoze n r s = answerPost .accepted n r ((withdrawToHead n s).setEntry n { s.entry n with dozing := true }) := by
  simp only [takeDoze, lifecycleCheck_of_active h, if_neg hmode, setDozing]
  exact congrArg _ (withdrawToHead_setEntry s n _ (by rfl))

theorem takeRelease_of_active (h : (s.entry n).lifecycle = .active) :
    takeRelease n r s = answerPost .accepted n r (s.setEntry n { s.entry n with held := false }) := by
  simp only [takeRelease, lifecycleCheck_of_active h, setHeld]

theorem takeWake_of_active (h : (s.entry n).lifecycle = .active) :
    takeWake n r s = answerPost .accepted n r (s.setEntry n { s.entry n with dozing := false }) := by
  simp only [takeWake, lifecycleCheck_of_active h, setDozing]

/-- A backlog freed raises the free count by the frames it held (R25). -/
theorem freeBacklog_freeCount (s : State) (n : StationId) :
    (freeBacklog n s).freeCount = s.free.length + (s.queue n).length + (stagedFor s n).isSome.toNat := by
  rw [State.freeCount, freeBacklog_free]
  cases stagedFor s n <;> simp <;> omega

variable (s n)

theorem withdrawToHead_queue_self : (withdrawToHead n s).queue n = (stagedFor s n).toList ++ s.queue n := by
  obtain ⟨e, hs, h⟩ | ⟨hs, h⟩ := withdrawToHead_cases s n <;> simp [h, hs]

theorem withdrawToHead_lane (l : LaneId) : (withdrawToHead n s).lane l =
    if l = (s.entry n).shadow.lane ∧ (stagedFor s n).isSome = true then { s.lane l with staged := none }
    else s.lane l := by
  obtain ⟨e, hs, h⟩ | ⟨hs, h⟩ := withdrawToHead_cases s n
  · simp only [h, hs, clearStaged, setQueue_lane, setLane_lane, Option.isSome_some, and_true]
    split
    · next hl => rw [hl]
    · rfl
  · simp [h, hs]

@[simp] theorem withdrawToHead_account (m : StationId) : (withdrawToHead n s).account m = s.account m := by
  obtain ⟨e, -, h⟩ | ⟨-, h⟩ := withdrawToHead_cases s n <;> simp [h, clearStaged]

@[simp] theorem withdrawToHead_latched : (withdrawToHead n s).latched = s.latched := by
  obtain ⟨e, -, h⟩ | ⟨-, h⟩ := withdrawToHead_cases s n <;> simp [h, clearStaged]

theorem withdrawToHead_poolKept : PoolKept s (withdrawToHead n s) := by
  obtain ⟨e, -, h⟩ | ⟨-, h⟩ := withdrawToHead_cases s n <;> simp [h, clearStaged]

theorem withdrawToHead_linkKept : LinkKept s (withdrawToHead n s) := by
  obtain ⟨e, -, h⟩ | ⟨-, h⟩ := withdrawToHead_cases s n <;> simp [h, clearStaged]

theorem withdrawToHead_controlKept : ControlKept s (withdrawToHead n s) := by
  obtain ⟨e, -, h⟩ | ⟨-, h⟩ := withdrawToHead_cases s n <;> simp [h, clearStaged]

theorem withdrawToHead_othersKept : OthersKept n s (withdrawToHead n s) := by
  obtain ⟨e, -, h⟩ | ⟨-, h⟩ := withdrawToHead_cases s n <;> simp [h, clearStaged]

/-- A withdrawal with a flag set, answered with the depth it leaves (R35, R37, R95). -/
theorem answerPost_withdrawToHead (x : StationEntry) (t : State)
    (ht : t = answerPost .accepted n r ((withdrawToHead n s).setEntry n x)) :
    t.entry n = x ∧ t.queue n = (stagedFor s n).toList ++ s.queue n ∧ t.account n = s.account n
      ∧ (∀ l, t.lane l = if l = (s.entry n).shadow.lane ∧ (stagedFor s n).isSome = true
          then { s.lane l with staged := none } else s.lane l)
      ∧ Passed (withWord r 3
          (postResult .accepted ((s.queue n).length + (stagedFor s n).isSome.toNat) s.freeCount)) s t
      ∧ OthersKept n s t ∧ PoolKept s t ∧ ControlKept s t ∧ t.latched = s.latched := by
  have hdepth : ((withdrawToHead n s).queue n).length = (s.queue n).length + (stagedFor s n).isSome.toNat := by
    rw [withdrawToHead_queue_self]
    cases stagedFor s n <;> simp
  have hfree : (withdrawToHead n s).freeCount = s.freeCount := congrArg List.length (withdrawToHead_poolKept s n).1
  have hcount : ((withdrawToHead n s).setEntry n x).freeCount = s.freeCount := hfree
  rw [ht, answerPost_eq_forward, setEntry_queue, hdepth, hcount]
  refine ⟨?entry, ?queue, ?account, fun l => ?lane, passed_forward _ ?link, ?others, ?pool, ?control, ?latched⟩
  case queue => exact withdrawToHead_queue_self s n
  case lane => simpa using withdrawToHead_lane s n l
  case link => exact withdrawToHead_linkKept s n
  case others => simpa using withdrawToHead_othersKept s n
  case pool => exact withdrawToHead_poolKept s n
  case control => exact withdrawToHead_controlKept s n
  all_goals simp

/-- A flag cleared, answered with the depth and the free count as they stand (R36, R38). -/
theorem answerPost_setEntry (x : StationEntry) (t : State) (ht : t = answerPost .accepted n r (s.setEntry n x)) :
    t.entry n = x ∧ t.queue n = s.queue n ∧ t.account n = s.account n
      ∧ Passed (withWord r 3 (postResult .accepted (s.queue n).length s.freeCount)) s t
      ∧ OthersKept n s t ∧ LanesKept s t ∧ PoolKept s t ∧ ControlKept s t ∧ t.latched = s.latched := by
  have hanswer : answerPost .accepted n r (s.setEntry n x)
      = (s.setEntry n x).forward (withWord r 3 (postResult .accepted (s.queue n).length s.freeCount)) := rfl
  rw [ht, hanswer]
  refine ⟨?entry, ?queue, ?account, passed_forward _ ?link, ?others, ?lanes, ?pool, ?control, ?latched⟩
  all_goals simp

end PostCommands

/-! ### The statements -/

/-- Settles O13: the branches of the interrogation that refuse, each with its code and RECORD_REFUSED latched. -/
theorem recordRefusedInOrder : Obligations.RecordRefusedInOrder := by
  intro r n s x word
  refine ⟨fun hrow => ⟨fun hlife => ?busy, fun hlife hcell => ?badKind, fun hlife hk hm hlane hbacklog => ?laneBusy⟩,
    removal_refused⟩
  case busy => exact stationRecord_refused hrow (takeStationRecord_of_retiring hlife)
  case badKind =>
    exact stationRecord_refused hrow
      (takeStationRecord_of_refusedCell hlife (isRefusedCell_eq_true (not_isRemovalCell hrow) hcell))
  case laneBusy =>
    exact stationRecord_refused hrow (takeStationRecord_of_laneBusy hlife hk hm hlane (hasBacklog_eq_true hbacklog))

/-- Settles O17: each check of a POST decides where those before it did not. -/
theorem postRefusedInOrder : Obligations.PostRefusedInOrder := by
  intro r n s hrow refusedWith blog len limit
  refine ⟨fun hlife => ?absent, fun hlife => ?retiring, fun hlife hlen => ?badLength, fun hlife hlen hfull => ?full,
    fun hlife hlen hroom hempty => ?empty⟩
  case absent => exact post_refused hrow (postCheck_of_lifecycle _ (lifecycleCheck_of_absent hlife))
  case retiring => exact post_refused hrow (postCheck_of_lifecycle _ (lifecycleCheck_of_retiring hlife))
  all_goals
    refine post_refused hrow ?_
    simp only [postCheck, lifecycleCheck_of_active hlife]
  case badLength => exact if_pos hlen
  case full => rw [if_neg (show ¬postLen r = 0 from hlen), if_pos (show limit ≤ backlog s n from hfull)]
  case empty =>
    have hnone : s.freeCount = 0 := by simp [State.freeCount, hempty]
    rw [if_neg (show ¬postLen r = 0 from hlen), if_neg (show ¬limit ≤ backlog s n from hroom.not_ge), if_pos hnone]

/-- Settles O18: an accepted FLUSH is the backlog freed, answered with the counts that leaves. -/
theorem flushFreesTheBacklog : Obligations.FlushFreesTheBacklog := by
  intro r n s hrow hactive
  refine ⟨takeRequest r s, exec_flush r s, ?_⟩
  rw [takeRequest_flush r s n hrow, takeFlush_of_active hactive, answerPost_eq_forward, freeBacklog_freeCount,
    freeBacklog_queue_self]
  refine ⟨?free, ?leastFree, ?queue, ?entry, ?account, fun l => ?lane, passed_forward _ ?link, ?others, ?control, ?latched⟩
  case free => exact freeBacklog_free s n
  case lane => simpa using freeBacklog_lane s n l
  case link => exact freeBacklog_linkKept s n
  case others => simpa using freeBacklog_othersKept s n
  case control => exact freeBacklog_controlKept s n
  all_goals simp

/-- Settles O19: the flag is one write of the entry, and the staged frame returns to the queue head. -/
theorem holdAndDozeReturnTheStagedGrant : Obligations.HoldAndDozeReturnTheStagedGrant := by
  intro r n s hactive returned
  refine ⟨fun hrow => ?hold, fun hrow hmode => ?doze⟩
  case hold =>
    exact ⟨_, exec_hold r s,
      answerPost_withdrawToHead s n _ _ ((takeRequest_hold r s n hrow).trans (takeHold_of_active hactive))⟩
  case doze =>
    exact ⟨_, exec_doze r s,
      answerPost_withdrawToHead s n _ _ ((takeRequest_doze r s n hrow).trans (takeDoze_of_active hactive hmode))⟩

/-- Settles O20: each command is one write of the entry, answered with the counts as they stand. -/
theorem releaseAndWakeClearTheirFlag : Obligations.ReleaseAndWakeClearTheirFlag := by
  intro r n s hactive restKept
  refine ⟨fun hrow => ?release, fun hrow => ?wake⟩
  case release =>
    exact ⟨_, exec_release r s,
      answerPost_setEntry s n _ _ ((takeRequest_release r s n hrow).trans (takeRelease_of_active hactive))⟩
  case wake =>
    exact ⟨_, exec_wake r s,
      answerPost_setEntry s n _ _ ((takeRequest_wake r s n hrow).trans (takeWake_of_active hactive))⟩

/-- Settles O21: the lifecycle refuses the five commands alike, the group a DOZE, and an unknown code nothing but
itself. -/
theorem queueCommandsRefused : Obligations.QueueCommandsRefused := by
  intro r n s
  refine ⟨fun c hc => ⟨fun hlife => ?absent, fun hlife => ?retiring⟩, fun hrow hactive hgroup => ?group,
    fun hrow => ?unknown⟩
  case absent => exact queueCommand_refused hc (lifecycleCheck_of_absent hlife)
  case retiring => exact queueCommand_refused hc (lifecycleCheck_of_retiring hlife)
  case group =>
    refine exec_refusePost rfl ((takeRequest_doze r s n hrow).trans ?_)
    simp only [takeDoze, lifecycleCheck_of_active hactive, if_pos hgroup]
  case unknown => exact exec_refusePost rfl (takeRequest_badCommand r s n hrow)

end Sys2Proof.Machine
end

section
/-! PROOFS. The Window Decoder: the region map (R144), the owner of a whole processor-side write (R1, R27, R104, R151,
R159), the rings' radios and the requests that pass (R141, R146). -/

namespace Sys2Proof.Machine

open Sys2Proof

/-! ### The region map (R144) -/

section Regions

variable {off : Nat}

/-- The offsets of each region of the window (R144). -/
def InRegion : Region → Nat → Prop
  | .globalControl, off => off ≤ 0x1F
  | .laneControl .a, off => 0x20 ≤ off ∧ off ≤ 0x3F
  | .laneControl .b, off => 0x40 ≤ off ∧ off ≤ 0x5F
  | .probeBlock, off => 0x100 ≤ off ∧ off ≤ 0x11F
  | .postSlot n, off => 0x2000 + 16 * n.val ≤ off ∧ off ≤ 0x2000 + 16 * n.val + 15
  | .stationRecord n, off => 0x4000 + 32 * n.val ≤ off ∧ off ≤ 0x4000 + 32 * n.val + 31
  | .ring .a k, off => 0x8000 + 16 * k.val ≤ off ∧ off ≤ 0x8000 + 16 * k.val + 15
  | .ring .b k, off => 0x8400 + 16 * k.val ≤ off ∧ off ≤ 0x8400 + 16 * k.val + 15
  | .unnamed, off => (0x60 ≤ off ∧ off ≤ 0xFF) ∨ (0x120 ≤ off ∧ off ≤ 0x1FFF) ∨ (0x8800 ≤ off ∧ off ≤ 0xFFFF)

theorem inRegion_regionAt (h : off < 65536) : InRegion (regionAt off) off := by
  unfold regionAt
  split_ifs <;> simp only [InRegion, Fin.ofNat] <;> omega

/-- The station or slot that lies at an offset. -/
theorem ofNat_div_eq {m base size : Nat} [NeZero m] {k : Fin m} (hsize : 0 < size)
    (hlow : base + size * k.val ≤ off) (hhigh : off < base + size * k.val + size) : Fin.ofNat m ((off - base) / size) = k := by
  have hdiv : (off - base) / size = k.val := by
    rw [Nat.div_eq_iff hsize]
    rw [Nat.mul_comm] at hlow hhigh
    omega
  ext
  rw [hdiv]
  exact Nat.mod_eq_of_lt k.isLt

theorem regionAt_of_inRegion {region : Region} (h : InRegion region off) : regionAt off = region := by
  unfold regionAt
  cases region with
  | globalControl =>
    simp only [InRegion] at h
    rw [if_pos (by omega)]
  | laneControl l =>
    cases l <;> simp only [InRegion] at h
    · rw [if_neg (by omega), if_pos (by omega)]
    · rw [if_neg (by omega), if_neg (by omega), if_pos (by omega)]
  | probeBlock =>
    simp only [InRegion] at h
    rw [if_neg (by omega), if_neg (by omega), if_neg (by omega), if_pos (by omega)]
  | postSlot n =>
    simp only [InRegion] at h
    rw [if_neg (by omega), if_neg (by omega), if_neg (by omega), if_neg (by omega), if_pos (by omega),
      ofNat_div_eq (by omega) h.1 (by omega)]
  | stationRecord n =>
    simp only [InRegion] at h
    rw [if_neg (by omega), if_neg (by omega), if_neg (by omega), if_neg (by omega), if_neg (by omega),
      if_pos (by omega), ofNat_div_eq (by omega) h.1 (by omega)]
  | ring l k =>
    cases l <;> simp only [InRegion] at h
    · rw [if_neg (by omega), if_neg (by omega), if_neg (by omega), if_neg (by omega), if_neg (by omega),
        if_neg (by omega), if_pos (by omega), ofNat_div_eq (by omega) h.1 (by omega)]
    · rw [if_neg (by omega), if_neg (by omega), if_neg (by omega), if_neg (by omega), if_neg (by omega),
        if_neg (by omega), if_neg (by omega), if_pos (by omega), ofNat_div_eq (by omega) h.1 (by omega)]
  | unnamed =>
    simp only [InRegion] at h
    rw [if_neg (by omega), if_neg (by omega), if_neg (by omega), if_neg (by omega), if_neg (by omega),
      if_neg (by omega), if_neg (by omega), if_neg (by omega)]

theorem regionAt_eq_iff (h : off < 65536) {region : Region} : regionAt off = region ↔ InRegion region off :=
  ⟨fun heq => heq ▸ inRegion_regionAt h, regionAt_of_inRegion⟩

/-- The record regions are the three control records, the probe block, the post slots and the station records. -/
theorem isRecordRegion_regionAt_iff (h : off < 65536) : isRecordRegion (regionAt off) = true ↔
    ¬((0x5F < off ∧ off < 0x100) ∨ (0x11F < off ∧ off < 0x2000) ∨ 0x7FFF < off) := by
  have hregion := inRegion_regionAt h
  cases hr : regionAt off with
  | globalControl | probeBlock | postSlot | stationRecord | unnamed =>
    simp only [hr, InRegion] at hregion
    simp only [isRecordRegion, true_iff, Bool.false_eq_true, false_iff]
    omega
  | laneControl l | ring l k =>
    cases l <;> simp only [hr, InRegion] at hregion <;>
      simp only [isRecordRegion, true_iff, Bool.false_eq_true, false_iff] <;> omega

theorem exists_ring_iff (h : off < 65536) (l : LaneId) : (∃ k, regionAt off = .ring l k) ↔
    match l with
    | .a => 0x8000 ≤ off ∧ off ≤ 0x83FF
    | .b => 0x8400 ≤ off ∧ off ≤ 0x87FF := by
  simp only [regionAt_eq_iff h]
  cases l <;> simp only [InRegion]
  · exact ⟨fun ⟨k, hk⟩ => by omega, fun hk => ⟨⟨(off - 0x8000) / 16, by omega⟩, by dsimp only; omega⟩⟩
  · exact ⟨fun ⟨k, hk⟩ => by omega, fun hk => ⟨⟨(off - 0x8400) / 16, by omega⟩, by dsimp only; omega⟩⟩

end Regions

/-! ### Who takes a request in the window (R146) -/

section Routes

variable {s : State} {r : Request} {b : Word} {off : Nat} {radio : Option LaneId} {l : LaneId} {k : Slot} {whole : Bool}

/-- The rows of a radio's own ring, and no row at all, are none that an owner of records has. -/
theorem recordEvent_ne_radio (region : Region) : recordEvent r region ≠ .ringRead l k whole
    ∧ recordEvent r region ≠ .completion l k whole ∧ (isRecordRegion region = true → recordEvent r region ≠ .passThrough) := by
  cases region with
  | globalControl | laneControl | probeBlock | postSlot | stationRecord => simp only [recordEvent]; split <;> simp
  | ring | unnamed => simp [recordEvent, isRecordRegion]

theorem routeInWindow_radio_read (hkind : r.kind = .read) : routeInWindow (some l) r off =
    match regionAt off with
    | .ring l' k => if l = l' then .ringRead l k (isWhole r off 4) else .passThrough
    | _ => .passThrough := by
  unfold routeInWindow
  rw [hkind]
  cases regionAt off <;> rfl

theorem routeInWindow_radio_write (hkind : r.kind = .write) : routeInWindow (some l) r off =
    match regionAt off with
    | .ring l' k => if l = l' then .completion l k (isWhole r off 4) else .passThrough
    | _ => .passThrough := by
  unfold routeInWindow
  rw [hkind]
  cases regionAt off <;> rfl

/-- A processor-side request is neither a ring read nor a completion. -/
theorem routeInWindow_processor_ne_radio : routeInWindow none r off ≠ .ringRead l k whole
    ∧ routeInWindow none r off ≠ .completion l k whole := by
  cases hkind : r.kind with
  | read => simp [routeInWindow_processor_read hkind]
  | write =>
    rw [routeInWindow_processor_write hkind]
    obtain ⟨hread, hcompletion, -⟩ := recordEvent_ne_radio (r := r) (l := l) (k := k) (whole := whole) (regionAt off)
    split
    · split
      · exact ⟨hread, hcompletion⟩
      · simp
    · simp

/-- A ring read is a read by the lane's own radio of its ring (R102, R146). -/
theorem routeInWindow_eq_ringRead_iff : routeInWindow radio r off = .ringRead l k whole ↔
    regionAt off = .ring l k ∧ whole = isWhole r off 4 ∧ radio = some l ∧ r.kind = .read := by
  cases radio with
  | none => simp [routeInWindow_processor_ne_radio.1]
  | some m =>
    cases hkind : r.kind with
    | read =>
      rw [routeInWindow_radio_read hkind]
      cases hregion : regionAt off with
      | ring l' k' => by_cases hm : m = l' <;> simp [hm] <;> grind
      | _ => simp
    | write =>
      rw [routeInWindow_radio_write hkind]
      cases hregion : regionAt off with
      | ring l' k' => by_cases hm : m = l' <;> simp [hm]
      | _ => simp

/-- A completion is a write by the lane's own radio to its ring (R102, R146). -/
theorem routeInWindow_eq_completion_iff : routeInWindow radio r off = .completion l k whole ↔
    regionAt off = .ring l k ∧ whole = isWhole r off 4 ∧ radio = some l ∧ r.kind = .write := by
  cases radio with
  | none => simp [routeInWindow_processor_ne_radio.2]
  | some m =>
    cases hkind : r.kind with
    | read =>
      rw [routeInWindow_radio_read hkind]
      cases hregion : regionAt off with
      | ring l' k' => by_cases hm : m = l' <;> simp [hm]
      | _ => simp
    | write =>
      rw [routeInWindow_radio_write hkind]
      cases hregion : regionAt off with
      | ring l' k' => by_cases hm : m = l' <;> simp [hm] <;> grind
      | _ => simp

/-- A radio's request passes anywhere but in its own ring (R146). -/
theorem routeInWindow_radio_eq_passThrough_iff :
    routeInWindow (some l) r off = .passThrough ↔ ¬∃ k, regionAt off = .ring l k := by
  cases hkind : r.kind with
  | read =>
    rw [routeInWindow_radio_read hkind]
    cases hregion : regionAt off with
    | ring l' k' => by_cases hl : l = l' <;> simp [hl, eq_comm]
    | _ => simp
  | write =>
    rw [routeInWindow_radio_write hkind]
    cases hregion : regionAt off with
    | ring l' k' => by_cases hl : l = l' <;> simp [hl, eq_comm]
    | _ => simp

/-- A processor-side request passes without a cause where it is a read or lies in no record region (R146). -/
theorem routeInWindow_processor_eq_passThrough_iff :
    routeInWindow none r off = .passThrough ↔ r.kind = .read ∨ isRecordRegion (regionAt off) = false := by
  cases hkind : r.kind with
  | read => simp [routeInWindow_processor_read hkind]
  | write =>
    rw [routeInWindow_processor_write hkind]
    cases hrecord : isRecordRegion (regionAt off) with
    | false => simp
    | true =>
      have hne := (recordEvent_ne_radio (r := r) (l := .a) (k := 0) (whole := true) (regionAt off)).2.2 hrecord
      cases isWhole r off (recordWords (regionAt off)) <;> simp [hne]

/-- A row other than passing is decided in the window. -/
theorem classify_eq_iff {ev : LinkEvent} (hev : ev ≠ .passThrough) : classify s r = ev ↔
    ∃ b off, s.base = some b ∧ windowOffset b r.addr = some off ∧ routeInWindow (radioOf s r.source) r off = ev := by
  constructor
  · intro h
    obtain ⟨b, off, hbase, hoff⟩ := exists_route_of_classify_ne_passThrough (h.trans_ne hev)
    exact ⟨b, off, hbase, hoff, (classify_of_windowOffset hbase hoff).symm.trans h⟩
  · rintro ⟨b, off, hbase, hoff, h⟩
    exact (classify_of_windowOffset hbase hoff).trans h

theorem classify_outside (hbase : s.base = some b) (h : r.addr.toNat < b.toNat ∨ b.toNat + 65535 < r.addr.toNat) :
    classify s r = .passThrough := by
  have hoff : windowOffset b r.addr = none := if_neg (by omega)
  simp only [classify, hbase, hoff]

theorem windowOffset_lt (h : windowOffset b r.addr = some off) : off < 65536 := by
  unfold windowOffset at h
  split at h
  · cases h; omega
  · cases h

theorem radioOf_radioA (h : r.source = s.radioA) : radioOf s r.source = some .a := if_pos h

theorem radioOf_radioB (hA : r.source ≠ s.radioA) (h : r.source = s.radioB) : radioOf s r.source = some .b :=
  (if_neg hA).trans (if_pos h)

theorem radioOf_processor (hA : r.source ≠ s.radioA) (hB : r.source ≠ s.radioB) : radioOf s r.source = none :=
  (if_neg hA).trans (if_neg hB)

/-- An unnamed offset is in no ring and in no record region (R144). -/
theorem routeInWindow_unnamed (h : regionAt off = .unnamed) : routeInWindow radio r off = .passThrough := by
  cases radio with
  | some l => exact routeInWindow_radio_eq_passThrough_iff.2 (by simp [h])
  | none => exact routeInWindow_processor_eq_passThrough_iff.2 (.inr (by rw [h]; rfl))

end Routes

/-! ### Whole processor-side writes -/

section WholeWrites

variable {s : State} {r : Request} {b : Word} {off : Nat} {region : Region}

/-- A whole processor-side write at a record of a region reaches that region's owner. -/
theorem classify_whole_write (hbase : s.base = some b) (hsource : radioOf s r.source = none) (hkind : r.kind = .write)
    (hoff : off < 65536) (haddr : r.addr.toNat = b.toNat + off) (hregion : InRegion region off)
    (hrecord : isRecordRegion region = true) (henables : r.enables = List.replicate (recordWords region) 0xF)
    (halign : off % (4 * recordWords region) = 0) : classify s r = recordEvent r region := by
  have hat := regionAt_of_inRegion hregion
  have hclassify := classify_whole_processor_write hbase (windowOffset_eq_some hoff haddr) hsource hkind
    (by rw [hat]; exact hrecord) (by rw [hat]; exact (isWhole_iff ..).2 ⟨henables, halign⟩)
  rw [hclassify, hat]

theorem kindOfCode_eq_none_iff {v : Nat} (h : v < 4) : kindOfCode v = .none ↔ v = 0 := by
  interval_cases v <;> simp [kindOfCode]

theorem modeOfCode_eq_shared_iff {v : Nat} (h : v < 4) : modeOfCode v = .unicastShared ↔ v = 0 := by
  interval_cases v <;> simp [modeOfCode]

/-- The removal cell is that of the four lowest bits clear (R3, R15). -/
theorem isRemovalCell_iff : isRemovalCell (readStationRecord r).kind (readStationRecord r).mode = true ↔
    bits (reqWord r 0) 3 0 = 0 := by
  have hkind := kindOfCode_eq_none_iff (bits_lt (reqWord r 0) 1 0)
  have hmode := modeOfCode_eq_shared_iff (bits_lt (reqWord r 0) 3 2)
  simp only [isRemovalCell, readStationRecord, Bool.and_eq_true, beq_iff_eq, hkind, hmode]
  simp only [bits]
  omega

theorem recordEvent_stationRecord (n : StationId) : recordEvent r (.stationRecord n) =
    if bits (reqWord r 0) 3 0 = 0 then .removal n else .stationRecord n := by
  simp only [recordEvent, isRemovalCell_iff]

theorem recordEvent_postSlot (n : StationId) : recordEvent r (.postSlot n) =
    match bits (reqWord r 0) 3 0 with
    | 1 => .post n | 2 => .flush n | 3 => .hold n | 4 => .release n | 5 => .doze n | 6 => .wake n
    | _ => .badCommand n := by
  simp only [recordEvent, postCommand]
  rcases bits (reqWord r 0) 3 0 with _ | _ | _ | _ | _ | _ | _ | code <;> rfl

/-- Two source fields name one source where their four bits agree (R151). -/
theorem globalRadios_eq_iff : globalRadioA r = globalRadioB r ↔ bits (reqWord r 0) 3 0 = bits (reqWord r 0) 11 8 := by
  have hA := bits_lt (reqWord r 0) 3 0
  have hB := bits_lt (reqWord r 0) 11 8
  rw [globalRadioA, globalRadioB, ← BitVec.toNat_inj, BitVec.toNat_ofNat, BitVec.toNat_ofNat]
  omega

theorem recordEvent_globalControl : recordEvent r .globalControl =
    if bits (reqWord r 0) 31 31 = 1 ∧ bits (reqWord r 0) 3 0 ≠ bits (reqWord r 0) 11 8
      then .schedulerClear else .globalControl := by
  simp only [recordEvent, globalClear, flag, Bool.and_eq_true, beq_iff_eq, bne_iff_ne, ne_eq, globalRadios_eq_iff]

theorem recordEvent_laneControl (l : LaneId) : recordEvent r (.laneControl l) =
    if bits (reqWord r 0) 0 0 = 1 then .laneEnable l else .laneDisable l := by
  simp only [recordEvent, readLaneRecord, flag, beq_iff_eq]

theorem recordEvent_probeBlock_station (n : StationId) (hkind : bits (reqWord r 0) 3 0 = 1)
    (harg : bits (reqWord r 0) 27 16 = n.val) : recordEvent r .probeBlock = .stationProbe n := by
  have hle : n.val ≤ 511 := by omega
  simp [recordEvent, probeKind, hkind, harg, hle]

theorem recordEvent_probeBlock_lane (l : LaneId) (hkind : bits (reqWord r 0) 3 0 = 2)
    (harg : bits (reqWord r 0) 27 16 = laneBit l) : recordEvent r .probeBlock = .laneProbe l := by
  cases l <;> simp [recordEvent, probeKind, hkind, harg, laneBit]

theorem recordEvent_probeBlock_pool (hkind : bits (reqWord r 0) 3 0 = 3) : recordEvent r .probeBlock = .poolProbe := by
  simp [recordEvent, probeKind, hkind]

theorem recordEvent_probeBlock_attention (hkind : bits (reqWord r 0) 3 0 = 4) :
    recordEvent r .probeBlock = .attentionProbe := by
  simp [recordEvent, probeKind, hkind]

end WholeWrites

/-! ### The statements -/

/-- Settles O5: the map is the ranges of `InRegion`, one region for each offset. -/
theorem regionMap : Obligations.RegionMap := by
  refine ⟨fun off hoff => ⟨regionAt_eq_iff hoff, regionAt_eq_iff hoff, regionAt_eq_iff hoff, regionAt_eq_iff hoff,
    fun n => regionAt_eq_iff hoff, fun n => regionAt_eq_iff hoff, fun k => regionAt_eq_iff hoff,
    fun k => regionAt_eq_iff hoff, regionAt_eq_iff hoff⟩, fun n l k => ⟨rfl, rfl, rfl, rfl, rfl, rfl⟩,
    fun r s b off hbase hoff hregion => ?unnamed⟩
  case unnamed => rw [classify_of_windowOffset hbase hoff, routeInWindow_unnamed hregion]

/-- Settles O6: the address of a whole write gives the region, and the words give the owner's row. -/
theorem wholeWritesReachTheirOwner : Obligations.WholeWritesReachTheirOwner := by
  intro s r b off hbase hsource hkind hoff haddr
  have howner : ∀ region, InRegion region off → isRecordRegion region = true →
      r.enables = List.replicate (recordWords region) 0xF → off % (4 * recordWords region) = 0 →
      classify s r = recordEvent r region := fun region => classify_whole_write hbase hsource hkind hoff haddr
  refine ⟨fun henables n hn => ?station, fun henables n hn => ?post, fun henables hzero => ?global,
    fun henables l hl => ?lane, fun henables hprobe => ?probe⟩
  case station =>
    rw [howner (.stationRecord n) (by simp only [InRegion]; omega) rfl henables (by simp only [recordWords]; omega),
      recordEvent_stationRecord]
  case post =>
    exact (howner (.postSlot n) (by simp only [InRegion]; omega) rfl henables (by simp only [recordWords]; omega)).trans
      (recordEvent_postSlot n)
  case global =>
    rw [howner .globalControl (by simp only [InRegion]; omega) rfl henables (by simp only [recordWords]; omega),
      recordEvent_globalControl]
  case lane =>
    obtain ⟨hregion, halign⟩ : InRegion (.laneControl l) off ∧ off % 32 = 0 := by
      cases l <;> dsimp only at hl <;> simp only [InRegion] <;> omega
    rw [howner (.laneControl l) hregion rfl henables halign, recordEvent_laneControl]
  case probe =>
    rw [howner .probeBlock (by simp only [InRegion]; omega) rfl henables (by simp only [recordWords]; omega)]
    exact ⟨recordEvent_probeBlock_station, recordEvent_probeBlock_lane .a, recordEvent_probeBlock_lane .b,
      recordEvent_probeBlock_pool, recordEvent_probeBlock_attention⟩

/-- Settles O7: both rows of a ring are decided by the offset, the source and the kind, and by nothing else. -/
theorem onlyTheLanesRadioReachesItsRing : Obligations.OnlyTheLanesRadioReachesItsRing := by
  intro s r l k whole named
  refine ⟨?read, ?write⟩
  case read =>
    rw [classify_eq_iff (by simp)]
    simp only [routeInWindow_eq_ringRead_iff, named]
    tauto
  case write =>
    rw [classify_eq_iff (by simp)]
    simp only [routeInWindow_eq_completion_iff, named]
    tauto

/-- Settles O9: the offset's region and the source decide which requests no owner takes. -/
theorem requestsPassThrough : Obligations.RequestsPassThrough := by
  intro s r
  refine ⟨passThrough_passed, fun b hbase => classify_outside hbase, fun b off hbase hoff haddr => ?window⟩
  case window =>
    rw [classify_of_windowOffset hbase (windowOffset_eq_some hoff haddr)]
    refine ⟨fun hA => ?radioA, fun hA hB => ?radioB, fun hA hB => ?processor⟩
    case radioA =>
      rw [radioOf_radioA hA, routeInWindow_radio_eq_passThrough_iff, exists_ring_iff hoff]
      dsimp only
      omega
    case radioB =>
      rw [radioOf_radioB hA hB, routeInWindow_radio_eq_passThrough_iff, exists_ring_iff hoff]
      dsimp only
      omega
    case processor =>
      rw [radioOf_processor hA hB, routeInWindow_processor_eq_passThrough_iff, ← Bool.not_eq_true,
        isRecordRegion_regionAt_iff hoff, not_not]

end Sys2Proof.Machine
end

section
/-! PROOFS. The fields of the station and lane records and what they become (R3 to R5, R47, R66, R67, R77), the estimate
of a frame (R48, R61), and the fields of the result words (R6, R29, R152, R155, R166). -/

namespace Sys2Proof.Machine

open Sys2Proof

/-! ### The station record (section 10.2) -/

section StationFields

variable {k : KindCode} {m : ModeCode} {x : StationRecord} {lo hi : Nat}

theorem kindOfCode_eq_iff {v : Nat} (h : v < 4) : kindOfCode v = k ↔ v = k.code := by
  interval_cases v <;> cases k <;> simp [kindOfCode, KindCode.code]

theorem modeOfCode_eq_iff {v : Nat} (h : v < 4) : modeOfCode v = m ↔ v = m.code := by
  interval_cases v <;> cases m <;> simp [modeOfCode, ModeCode.code]

theorem laneOfBit_eq_iff {w : Word} {i : Nat} {l : LaneId} (h : bits w i i < 2) :
    laneOfBit (flag w i) = l ↔ bits w i i = laneBit l := by
  rw [flag]
  interval_cases bits w i i <;> cases l <;> simp [laneOfBit, laneBit]

/-- The rate range of a cell that accepts records (R3). -/
theorem rateRange_eq (hrange : (k = .legacy ∨ m = .group) ∧ lo = 2 ∧ hi = 108
      ∨ m ≠ .group ∧ k = .highThroughput ∧ lo = 13 ∧ hi = 1200
      ∨ m ≠ .group ∧ k = .veryHighThroughput ∧ lo = 13 ∧ hi = 4800) : rateRange k m = (lo, hi) := by
  obtain ⟨rfl | rfl, rfl, rfl⟩ | ⟨hm, rfl, rfl, rfl⟩ | ⟨hm, rfl, rfl, rfl⟩ := hrange
  · cases m <;> rfl
  · rfl
  all_goals
    cases m with
    | group => exact absurd rfl hm
    | _ => rfl

theorem isGroupRateCell_iff (hk : k ≠ .none) : isGroupRateCell k m = true ↔ m = .group ∧ k ≠ .legacy := by
  cases k <;> simp [isGroupRateCell] at hk ⊢

/-- A rate is moved to the end of its range that it lies beyond (R4). -/
theorem clampRate_of_range (h : rateRange k m = (lo, hi)) (hle : lo ≤ hi) (rate : Nat) :
    (rate < lo → clampRate k m rate = lo) ∧ (lo ≤ rate → rate ≤ hi → clampRate k m rate = rate)
      ∧ (hi < rate → clampRate k m rate = hi) ∧ (clampRate k m rate ≠ rate ↔ rate < lo ∨ hi < rate) := by
  simp only [clampRate, h]
  omega

theorem groupRate_iff : x.groupRate = true ↔
    clampRate x.kind x.mode x.rate ≠ x.rate ∧ isGroupRateCell x.kind x.mode = true := by
  simp [StationRecord.groupRate]

theorem rateClamped_iff : x.rateClamped = true ↔
    clampRate x.kind x.mode x.rate ≠ x.rate ∧ ¬isGroupRateCell x.kind x.mode = true := by
  simp [StationRecord.rateClamped]

end StationFields

/-! ### Estimates (R48, R61) -/

section Estimates

variable {len rate : Nat}

/-- The base of an estimate is the quotient rounded up (R48). -/
theorem estimateBase_bounds (hrate : 1 ≤ rate) :
    64 * len ≤ estimateBase len rate * rate ∧ estimateBase len rate * rate < 64 * len + rate := by
  have hdiv := Nat.div_add_mod (64 * len + rate - 1) rate
  have hmod : (64 * len + rate - 1) % rate < rate := Nat.mod_lt _ hrate
  rw [Nat.mul_comm] at hdiv
  unfold estimateBase
  omega

theorem one_le_estimateBase (hlen : 1 ≤ len) (hrate : 1 ≤ rate) : 1 ≤ estimateBase len rate := by
  obtain ⟨hlow, -⟩ := estimateBase_bounds (len := len) hrate
  refine Nat.one_le_iff_ne_zero.2 fun hzero => ?_
  rw [hzero, Nat.zero_mul] at hlow
  omega

end Estimates

/-! ### The lane record (section 10.5) -/

section LaneFields

variable {x : Lane} {r : LaneRecord}

theorem clampQuantum_eq (q : Nat) : clampQuantum q = if q = 0 then 1 else min q 4095 := by
  unfold clampQuantum Config.auSettingMax
  split <;> omega

/-- A timer setting taken is in range, and its period within 2 to 65,536 µs (R66, R67). -/
theorem clampTimer_taken (t : TimerSetting) :
    (clampTimer t).preset = min t.preset 255 ∧ (clampTimer t).code = min t.code 7
      ∧ (clampTimer t).period = (min t.preset 255 + 1) * 2 ^ (min t.code 7 + 1)
      ∧ 2 ≤ (clampTimer t).period ∧ (clampTimer t).period ≤ 65536 := by
  have hpreset : min t.preset 255 + 1 ≤ 256 := by omega
  have hhigh : 2 ^ (min t.code 7 + 1) ≤ 2 ^ 8 := Nat.pow_le_pow_right (by omega) (by omega)
  have hlow : 2 ^ 1 ≤ 2 ^ (min t.code 7 + 1) := Nat.pow_le_pow_right (by omega) (by omega)
  exact ⟨rfl, rfl, rfl, Nat.mul_le_mul (Nat.le_add_left 1 _) hlow, Nat.mul_le_mul hpreset hhigh⟩

theorem phaseModeOfCode_eq (v : Nat) : phaseModeOfCode v =
    if v = 0 then .alternate else if v = 1 then .reservedOnly else .sharedOnly := by
  rcases v with _ | _ | v <;> rfl

theorem takeSettings_mode : (x.takeSettings r).mode = phaseModeOfCode r.modeCode := by
  obtain ⟨_, _, _, heq⟩ := takeSettings_eq x r
  rw [heq]

/-- In an Off lane, or with the mode it has, a lane keeps its phase and its phase timers (R77). -/
theorem takeSettings_keeps_phase (h : x.laneState = .off ∨ (x.takeSettings r).mode = x.mode) :
    (x.takeSettings r).phase = x.phase ∧ (x.takeSettings r).reservedTimer = x.reservedTimer
      ∧ (x.takeSettings r).sharedTimer = x.sharedTimer := by
  by_cases hoff : x.laneState = .off
  · rw [takeSettings_of_off x r hoff]
    exact ⟨rfl, rfl, rfl⟩
  · have hmode : phaseModeOfCode r.modeCode = (x.withSettings r).mode :=
      takeSettings_mode.symm.trans (h.resolve_left hoff)
    rw [takeSettings_of_on x r hoff, hmode, changeMode_same]
    exact ⟨rfl, rfl, rfl⟩

/-- A lane in service that is given another mode takes that mode's phase and timers at once (R77). -/
theorem changeMode_phase {m : PhaseMode} (h : m ≠ x.mode) :
    (m = .reservedOnly → (x.changeMode m).phase = .reserved ∧ (x.changeMode m).reservedTimer = none
        ∧ (x.changeMode m).sharedTimer = none)
      ∧ (m = .sharedOnly → (x.changeMode m).phase = .shared ∧ (x.changeMode m).reservedTimer = none
        ∧ (x.changeMode m).sharedTimer = none)
      ∧ (m = .alternate → (x.changeMode m).phase = x.phase
        ∧ (x.changeMode m).reservedTimer = (if x.phase = .reserved then some x.reservedSetting.period else none)
        ∧ (x.changeMode m).sharedTimer = (if x.phase = .shared then some x.sharedSetting.period else none)) := by
  refine ⟨?_, ?_, ?_⟩ <;> rintro rfl
  · rw [changeMode_reservedOnly x h]
    exact ⟨rfl, rfl, rfl⟩
  · rw [changeMode_sharedOnly x h]
    exact ⟨rfl, rfl, rfl⟩
  · rw [changeMode_alternate x h]
    cases x.phase <;> exact ⟨rfl, rfl, rfl⟩

theorem takeSettings_changes_phase (hon : x.laneState ≠ .off) (h : (x.takeSettings r).mode ≠ x.mode) :
    ((x.takeSettings r).mode = .reservedOnly → (x.takeSettings r).phase = .reserved
        ∧ (x.takeSettings r).reservedTimer = none ∧ (x.takeSettings r).sharedTimer = none)
      ∧ ((x.takeSettings r).mode = .sharedOnly → (x.takeSettings r).phase = .shared
        ∧ (x.takeSettings r).reservedTimer = none ∧ (x.takeSettings r).sharedTimer = none)
      ∧ ((x.takeSettings r).mode = .alternate → (x.takeSettings r).phase = x.phase
        ∧ (x.takeSettings r).reservedTimer
          = (if x.phase = .reserved then some (x.takeSettings r).reservedSetting.period else none)
        ∧ (x.takeSettings r).sharedTimer
          = (if x.phase = .shared then some (x.takeSettings r).sharedSetting.period else none)) := by
  have hsettings : (x.takeSettings r).reservedSetting = (x.withSettings r).reservedSetting
      ∧ (x.takeSettings r).sharedSetting = (x.withSettings r).sharedSetting := by
    obtain ⟨_, _, _, heq⟩ := takeSettings_eq x r
    rw [heq]
    exact ⟨rfl, rfl⟩
  rw [takeSettings_mode] at h ⊢
  rw [hsettings.1, hsettings.2, takeSettings_of_on x r hon]
  exact changeMode_phase (x := x.withSettings r) h

end LaneFields

/-! ### The result words (R166) -/

section ResultWords

theorem code_lt (c : ResultCode) : c.code < 16 := by cases c <;> decide

theorem stationResult_fields (code : ResultCode) (rate depth group : Bool) (generation : Nat) :
    let w := stationResult code rate depth group generation
    bits w 3 0 = code.code ∧ bits w 7 4 = 0 ∧ bits w 8 8 = rate.toNat ∧ bits w 9 9 = depth.toNat
      ∧ bits w 10 10 = group.toNat ∧ bits w 23 11 = 0 ∧ bits w 31 24 = generation % 256 := by
  have hcode := code_lt code
  have hrate := rate.toNat_le
  have hdepth := depth.toNat_le
  have hgroup := group.toNat_le
  simp only [stationResult, bits_wordOf]
  omega

theorem postResult_fields (code : ResultCode) (depth free : Nat) :
    let w := postResult code depth free
    bits w 3 0 = code.code ∧ bits w 7 4 = 0 ∧ bits w 15 8 = depth % 256 ∧ bits w 28 16 = free % 8192
      ∧ bits w 31 29 = 0 := by
  have hcode := code_lt code
  simp only [postResult, bits_wordOf]
  omega

theorem globalResult_fields (code : ResultCode) (watermark cleared : Bool) :
    let w := globalResult code watermark cleared
    bits w 3 0 = code.code ∧ bits w 7 4 = 0 ∧ bits w 8 8 = watermark.toNat ∧ bits w 9 9 = cleared.toNat
      ∧ bits w 31 10 = 0 := by
  have hcode := code_lt code
  have hwatermark := watermark.toNat_le
  have hcleared := cleared.toNat_le
  simp only [globalResult, bits_wordOf]
  omega

variable (x : LaneRecord) (after : LaneState)

theorem laneResult_fields : bits (laneResult x after) 3 0 = (acceptedCode x.anyClamped).code
    ∧ bits (laneResult x after) 7 4 = 0
    ∧ bits (laneResult x after) 8 8 = x.startClamped.toNat ∧ bits (laneResult x after) 9 9 = x.modeClamped.toNat
    ∧ bits (laneResult x after) 10 10 = (timerClamped x.reserved).toNat
    ∧ bits (laneResult x after) 11 11 = (timerClamped x.shared).toNat
    ∧ bits (laneResult x after) 12 12 = (timerClamped x.refill).toNat
    ∧ bits (laneResult x after) 13 13 = (timerClamped x.timeout).toNat
    ∧ bits (laneResult x after) 14 14 = x.quantumClamped.toNat
    ∧ bits (laneResult x after) 15 15 = x.overheadClamped.toNat
    ∧ bits (laneResult x after) 17 16 = after.code ∧ bits (laneResult x after) 31 18 = 0 := by
  have hcode := code_lt (acceptedCode x.anyClamped)
  have hstart := x.startClamped.toNat_le
  have hmode := x.modeClamped.toNat_le
  have hreserved := (timerClamped x.reserved).toNat_le
  have hshared := (timerClamped x.shared).toNat_le
  have hrefill := (timerClamped x.refill).toNat_le
  have htimeout := (timerClamped x.timeout).toNat_le
  have hquantum := x.quantumClamped.toNat_le
  have hoverhead := x.overheadClamped.toNat_le
  have hafter : after.code ≤ 2 := by cases after <;> decide
  simp only [laneResult, bits_wordOf]
  refine ⟨?_, ?_, ?_, ?_, ?_, ?_, ?_, ?_, ?_, ?_, ?_, ?_⟩ <;> omega

theorem timerClamped_iff (t : TimerSetting) : timerClamped t = true ↔ 255 < t.preset ∨ 7 < t.code := by
  obtain ⟨preset, code⟩ := t
  simp only [timerClamped, clampTimer, bne_iff_ne, ne_eq, TimerSetting.mk.injEq]
  omega

theorem startClamped_iff : x.startClamped = true ↔ 63 < x.start := decide_eq_true_iff
theorem modeClamped_iff : x.modeClamped = true ↔ 2 < x.modeCode := decide_eq_true_iff

theorem quantumClamped_iff : x.quantumClamped = true ↔ x.quantum = 0 ∨ 4095 < x.quantum := by
  rw [LaneRecord.quantumClamped, bne_iff_ne, clampQuantum_eq]
  split <;> omega

theorem overheadClamped_iff : x.overheadClamped = true ↔ 4095 < x.overhead := by
  rw [LaneRecord.overheadClamped, bne_iff_ne, clampOverhead, Config.auSettingMax]
  omega

theorem anyClamped_iff : x.anyClamped = true ↔
    63 < x.start ∨ 2 < x.modeCode ∨ (255 < x.reserved.preset ∨ 7 < x.reserved.code)
      ∨ (255 < x.shared.preset ∨ 7 < x.shared.code) ∨ (255 < x.refill.preset ∨ 7 < x.refill.code)
      ∨ (255 < x.timeout.preset ∨ 7 < x.timeout.code) ∨ x.quantum = 0 ∨ 4095 < x.quantum ∨ 4095 < x.overhead := by
  simp only [LaneRecord.anyClamped, Bool.or_eq_true, startClamped_iff, modeClamped_iff, timerClamped_iff,
    quantumClamped_iff, overheadClamped_iff, or_assoc]

end ResultWords

/-! ### The statements -/

/-- Settles O10: each code has its field's full width, and the clamp is that of the cell's range. -/
theorem rateAndDepthClamps : Obligations.RateAndDepthClamps := by
  refine ⟨fun r => ?fields, fun x lo hi hk hm hrange => ?clamps⟩
  case fields =>
    have hkind := bits_lt (reqWord r 0) 1 0
    have hmode := bits_lt (reqWord r 0) 3 2
    have hlane := bits_lt (reqWord r 0) 4 4
    exact ⟨kindOfCode_eq_iff hkind, kindOfCode_eq_iff hkind, kindOfCode_eq_iff hkind, kindOfCode_eq_iff hkind,
      modeOfCode_eq_iff hmode, modeOfCode_eq_iff hmode, modeOfCode_eq_iff hmode, modeOfCode_eq_iff hmode,
      laneOfBit_eq_iff hlane, laneOfBit_eq_iff hlane, rfl, rfl, rfl, rfl, rfl⟩
  case clamps =>
    have hle : lo ≤ hi := by omega
    obtain ⟨hlow, hmid, hhigh, hmoved⟩ := clampRate_of_range (rateRange_eq hrange) hle x.rate
    refine ⟨hlow, hmid, hhigh, ?group, ?rate, fun h => if_pos h, fun h => if_neg h, beq_iff_eq, rfl, rfl, rfl, rfl, rfl⟩
    case group => rw [groupRate_iff, hmoved, isGroupRateCell_iff hk]
    case rate => rw [rateClamped_iff, hmoved, isGroupRateCell_iff hk]

/-- Settles O22: the estimate is a quotient rounded up plus the overhead, held at 32,767. -/
theorem estimateOfAFrame : Obligations.EstimateOfAFrame := by
  intro len rate overhead hlen hrate
  obtain ⟨hlow, hhigh⟩ := estimateBase_bounds (len := len) hrate
  have hone := one_le_estimateBase hlen hrate
  have hestimate : 1 ≤ estimateOf len rate overhead ∧ estimateOf len rate overhead ≤ 32767 := by
    simp only [estimateOf, Config.estimateMax]
    omega
  obtain ⟨hmin, hmax⟩ := hestimate
  refine ⟨⟨estimateBase len rate, hlow, hhigh, rfl, decide_eq_true_iff⟩, hmin, hmax, ?_⟩
  simp only [estimateView]
  omega

/-- Settles O23: the clamps of the settings, and the cases of `Lane.changeMode`. -/
theorem laneRecordSettings : Obligations.LaneRecordSettings := by
  refine ⟨fun r => ⟨beq_iff_eq, rfl, rfl, ⟨rfl, rfl⟩, ⟨rfl, rfl⟩, ⟨rfl, rfl⟩, ⟨rfl, rfl⟩, rfl, rfl⟩, fun x r => ?settings⟩
  case settings =>
    refine ⟨?quantum, ?overhead, ?reserved, ?shared, ?refill, ?timeout, takeSettings_mode.trans (phaseModeOfCode_eq _),
      takeSettings_keeps_phase, takeSettings_changes_phase, ?frame⟩
    all_goals
      obtain ⟨_, _, _, heq⟩ := takeSettings_eq x r
      rw [heq]
    case quantum => exact clampQuantum_eq _
    case overhead => rfl
    case reserved => exact clampTimer_taken _
    case shared => exact clampTimer_taken _
    case refill => exact clampTimer_taken _
    case timeout => exact clampTimer_taken _
    case frame => rfl

/-- Settles O50: the fields of each result word do not overlap, and each flag is set where its clamp moves a field. -/
theorem resultWordFields : Obligations.ResultWordFields := by
  refine ⟨⟨rfl, rfl, rfl, rfl, rfl, rfl, rfl, rfl, rfl, rfl, rfl, rfl, rfl⟩, stationResult_fields, fun x => rfl,
    postResult_fields, globalResult_fields, fun x after => ?lane⟩
  case lane =>
    obtain ⟨hcode, hpad, hstart, hmode, hreserved, hshared, hrefill, htimeout, hquantum, hoverhead, hafter, hzero⟩ :=
      laneResult_fields x after
    dsimp only
    rw [hcode, hpad, hstart, hmode, hreserved, hshared, hrefill, htimeout, hquantum, hoverhead, hafter, hzero]
    simp only [Bool.toNat_eq_one]
    refine ⟨fun hany => ?clamped, fun hnone => ?unclamped, trivial, startClamped_iff x, modeClamped_iff x, timerClamped_iff _,
      timerClamped_iff _, timerClamped_iff _, timerClamped_iff _, quantumClamped_iff x, overheadClamped_iff x, ?state, trivial⟩
    case clamped => rw [(anyClamped_iff x).2 hany]; rfl
    case unclamped => rw [Bool.eq_false_iff.2 (mt (anyClamped_iff x).1 hnone)]; rfl
    case state => cases after <;> rfl

end Sys2Proof.Machine
end

section
/-! PROOFS. The timed events: a tick with nothing outstanding, events that are not due, the refill expiry and the phase
expiry (R65, R68, R72, R76). -/

namespace Sys2Proof.Machine

open Sys2Proof

variable {s : State} {l : LaneId}

/-- The write of one lane changes nothing but that lane. -/
theorem setLane_frame (x : Lane) : OtherLaneKept l s (s.setLane l x) ∧ StationsKept s (s.setLane l x)
    ∧ PoolKept s (s.setLane l x) ∧ LinkKept s (s.setLane l x) ∧ ControlKept s (s.setLane l x) := by
  refine ⟨?otherLane, fun m => ⟨?entry, ?account, ?queue⟩, ?pool, ?link, ?control⟩
  all_goals simp

/-! ### Events that are not due -/

theorem takeRefillExpiry_of_not_due (h : (s.lane l).refillTimer ≠ some 0) : takeRefillExpiry l s = s :=
  if_neg h

theorem takeSweepVisit_of_not_due (h : ¬((s.lane l).sweeping = true ∧ (s.lane l).visitDue = true)) :
    takeSweepVisit l s = s :=
  if_neg h

theorem takePhaseExpiry_of_not_due (h : (s.lane l).phaseTimer (s.lane l).phase ≠ some 0) : takePhaseExpiry l s = s :=
  if_neg h

theorem takeGrantExpiry_of_not_due {k : Slot} (h : ∀ g ∈ (s.lane l).issued, g.slot = k → g.deadline ≠ s.count) :
    takeGrantExpiry l k s = s := by
  unfold takeGrantExpiry
  split
  · next g hfind =>
    have hslot : g.slot = k := by simpa using List.find?_some hfind
    exact if_neg (h g (List.mem_of_find?_eq_some hfind) hslot)
  · rfl

/-- A decision with no ready station has no winner at any of its steps (R85, R89). -/
theorem winner_eq_none_of_no_ready (h : ∀ n, ¬Ready s l n) : winner s l = none := by
  cases hwin : winner s l with
  | none => rfl
  | some found => exact absurd (ready_of_winner hwin) (h found.1)

theorem takeStaging_of_not_open (h : (s.lane l).laneState ≠ .running ∨ (s.lane l).staged ≠ none) :
    takeStaging l s = s :=
  if_neg fun hopen => h.elim (· hopen.1) (· hopen.2)

theorem takeStaging_of_no_ready (h : ∀ n, ¬Ready s l n) : takeStaging l s = s := by
  simp only [takeStaging, winner_eq_none_of_no_ready h, ite_self]

/-! ### The tick -/

/-- With nothing outstanding at a lane, the events a tick takes first change nothing. -/
theorem takeDue_of_nothing_due (h : NothingDue s) : takeDue l s = s := by
  obtain ⟨hrefill, hphase, hsweep, hgrants⟩ := h l
  have hexpiries : ((s.lane l).issued.map Grant.slot).foldl (fun t k => takeGrantExpiry l k t) s = s :=
    List.foldl_fixed' (fun _ => takeGrantExpiry_of_not_due fun g hg _ => hgrants g hg) _
  rw [takeDue, hexpiries, takeSweepVisit_of_not_due hsweep, takeRefillExpiry_of_not_due hrefill,
    takePhaseExpiry_of_not_due hphase]

theorem takeTick_of_none (h : s.base = none) : takeTick s = s := by simp only [takeTick, h]

theorem takeTick_of_nothing_due {b : Word} (hbase : s.base = some b) (h : NothingDue s) : takeTick s = advanceCount s := by
  simp only [takeTick, hbase, takeDue_of_nothing_due h]

theorem advanceCount_lane : (advanceCount s).lane l = (s.lane l).tick := by cases l <;> rfl

/-! ### The refill expiry and the phase expiry -/

/-- The refill timer reloaded with its period (R68). -/
def Lane.reload (x : Lane) : Lane := { x with refillTimer := some x.refillSetting.period }

theorem takeRefillExpiry_of_idle (hdue : (s.lane l).refillTimer = some 0) (hsweep : (s.lane l).sweeping = false) :
    takeRefillExpiry l s
      = s.setLane l { (s.lane l).reload with sweeping := true, position := 0, visitDue := false } := by
  simp only [takeRefillExpiry, hdue, hsweep, if_pos, Lane.reload]

theorem takeRefillExpiry_of_sweeping (hdue : (s.lane l).refillTimer = some 0) (hsweep : (s.lane l).sweeping = true)
    (howed : (s.lane l).owed = false) :
    takeRefillExpiry l s = s.setLane l { (s.lane l).reload with owed := true } := by
  simp only [takeRefillExpiry, hdue, hsweep, howed, if_pos, Lane.reload, Bool.true_eq_false, if_false]

theorem takeRefillExpiry_of_owed (hdue : (s.lane l).refillTimer = some 0) (hsweep : (s.lane l).sweeping = true)
    (howed : (s.lane l).owed = true) :
    takeRefillExpiry l s = (s.setLane l (s.lane l).reload).latch .refillOverrun := by
  simp only [takeRefillExpiry, hdue, hsweep, howed, if_pos, Lane.reload, Bool.true_eq_false, if_false]

theorem takePhaseExpiry_of_due (hdue : (s.lane l).phaseTimer (s.lane l).phase = some 0) :
    takePhaseExpiry l s = s.setLane l ((s.lane l).startPhase (s.lane l).phase.other) :=
  if_pos hdue

/-! ### The obligations -/

/-- Settles O24: with nothing outstanding no event is taken first, and the tick is the count's advance alone. -/
theorem tickLowersRunningTimers : Obligations.TickLowersRunningTimers := by
  refine ⟨fun s hnone => congrArg _ (takeTick_of_none hnone), fun s b hbase hdue => ?_⟩
  exact ⟨advanceCount s, congrArg _ (takeTick_of_nothing_due hbase hdue), rfl, fun _ => advanceCount_lane,
    .refl s, .refl s, .refl s, rfl, rfl, rfl, rfl, rfl, rfl, rfl⟩

/-- Settles O25: each event's own condition guards it, and a staging decision without a ready station has no winner. -/
theorem eventsNotDueChangeNothing : Obligations.EventsNotDueChangeNothing := by
  intro s l k
  refine ⟨fun h => congrArg _ (takeRefillExpiry_of_not_due h),
    fun h => congrArg _ (takeSweepVisit_of_not_due h), fun h => congrArg _ (takePhaseExpiry_of_not_due h),
    fun h => congrArg _ (takeGrantExpiry_of_not_due h), ?staging⟩
  rintro (hlane | hslot | hready)
  · exact congrArg _ (takeStaging_of_not_open (.inl hlane))
  · exact congrArg _ (takeStaging_of_not_open (.inr hslot))
  · exact congrArg _ (takeStaging_of_no_ready hready)

/-- Settles O26, by the sweep and the refill-owed flag as the expiry finds them. -/
theorem refillExpiryOutcomes : Obligations.RefillExpiryOutcomes := by
  intro s l hdue
  refine ⟨takeRefillExpiry l s, rfl, ?_⟩
  cases hsweep : (s.lane l).sweeping with
  | false =>
    rw [takeRefillExpiry_of_idle hdue hsweep]
    exact ⟨fun _ => ⟨setLane_lane_self s l _, setLane_latched s l _⟩, nofun, nofun, setLane_frame _⟩
  | true =>
    cases howed : (s.lane l).owed with
    | false =>
      rw [takeRefillExpiry_of_sweeping hdue hsweep howed]
      exact ⟨nofun, fun _ _ => ⟨setLane_lane_self s l _, setLane_latched s l _⟩, fun _ => nofun, setLane_frame _⟩
    | true =>
      rw [takeRefillExpiry_of_owed hdue hsweep howed]
      refine ⟨nofun, fun _ => nofun, fun _ _ => ⟨?lane, ?latched⟩, ?_⟩
      case lane => rw [latch_lane, setLane_lane_self]; rfl
      case latched => rw [latch_latched, setLane_latched]
      obtain ⟨hother, hstations, hpool, hlink, hcontrol⟩ := setLane_frame (s := s) (l := l) (s.lane l).reload
      exact ⟨(otherLaneKept_latch ..).2 hother, hstations, hpool, hlink, hcontrol⟩

/-- Settles O28, by the phase that expires. -/
theorem phaseExpiryChangesThePhase : Obligations.PhaseExpiryChangesThePhase := by
  intro s l
  constructor
  all_goals
    intro hphase htimer
    refine ⟨takePhaseExpiry l s, rfl, ?_⟩
    rw [takePhaseExpiry_of_due (by rw [hphase]; exact htimer), hphase]
    obtain ⟨hother, hstations, hpool, hlink, hcontrol⟩ := setLane_frame (s := s) (l := l)
      ((s.lane l).startPhase (s.lane l).phase.other)
    rw [hphase] at hother hstations hpool hlink hcontrol
    exact ⟨setLane_lane_self s l _, hother, hstations, hpool, hlink, hcontrol, setLane_latched s l _⟩

end Sys2Proof.Machine
end

section
/-! PROOFS. The control records: the global record and its clear (R151 to R153), the enable of a lane in service and the
disable of a lane (R104, R106 to R108). -/

namespace Sys2Proof.Machine

open Sys2Proof

variable {s : State} {r : Request} {l : LaneId}

/-! ### The global control record -/

theorem refuseGlobal_refused : RecordRefused r (globalResult .mapConflict false false) s (refuseGlobal r s) :=
  ⟨passed_forward _ (latch_linkKept .recordRefused), latch_partKept .recordRefused, rfl⟩

theorem takeGlobalControl_of_conflict (h : bits (reqWord r 0) 3 0 = bits (reqWord r 0) 11 8) :
    takeGlobalControl r s = refuseGlobal r s :=
  if_pos (globalRadios_eq_iff.2 h)

theorem takeGlobalControl_of_accepted (h : bits (reqWord r 0) 3 0 ≠ bits (reqWord r 0) 11 8) :
    takeGlobalControl r s = (takeGlobalSettings r s).forward (withWord r 7 (globalAccepted r false)) :=
  if_neg (mt globalRadios_eq_iff.1 h)

theorem resetFree_eq : resetFree = List.range 4096 := by
  unfold resetFree
  rfl

/-- Only the lifecycle of a Retiring station is changed by a scheduler clear (R153). -/
theorem schedulerClear_entry_eq (n : StationId) : (schedulerClear s).entry n = { s.entry n with
    lifecycle := if (s.entry n).lifecycle = .retiring then .absent else (s.entry n).lifecycle } := by
  rw [schedulerClear_entry]
  by_cases hretiring : (s.entry n).lifecycle = .retiring
  · rw [if_pos hretiring, if_pos hretiring]
  · rw [if_neg hretiring, if_neg hretiring]

/-- A clear empties a lane, and only an alternating lane in service begins its phase again (R80, R100, R121, R153). -/
theorem clear_eq (x : Lane) : x.clear = { x.emptied with
    phase := if x.laneState ≠ .off ∧ x.mode = .alternate then .reserved else x.phase
    reservedTimer := if x.laneState ≠ .off ∧ x.mode = .alternate then some x.reservedSetting.period else x.reservedTimer
    sharedTimer := if x.laneState ≠ .off ∧ x.mode = .alternate then none else x.sharedTimer } := by
  by_cases hrestart : x.laneState ≠ .off ∧ x.mode = .alternate
  · rw [clear_of_restart x hrestart, if_pos hrestart, if_pos hrestart, if_pos hrestart]; rfl
  · rw [clear_of_no_restart x hrestart, if_neg hrestart, if_neg hrestart, if_neg hrestart]; rfl

/-- Settles O32: the conflict is tested first, and the refusal is one latch and the result word. -/
theorem globalRecordRefusedOnConflict : Obligations.GlobalRecordRefusedOnConflict := by
  intro r s hrow hconflict
  refine ⟨takeRequest r s, exec_globalControlWrite r s, ?_⟩
  rw [takeRequest_globalControl r s hrow, takeGlobalControl_of_conflict hconflict]
  exact refuseGlobal_refused

/-- Settles O33: past the conflict test the record is its three settings and the result word. -/
theorem globalRecordTaken : Obligations.GlobalRecordTaken := by
  intro r s hrow hdiffer clamped
  refine ⟨takeRequest r s, exec_globalControlWrite r s, ?_⟩
  rw [takeRequest_globalControl r s hrow, takeGlobalControl_of_accepted hdiffer]
  exact ⟨rfl, rfl, rfl, rfl, passed_forward _ (.refl s), .refl s, .refl s, .refl s, rfl, rfl, rfl, rfl⟩

/-- Settles O34, block by block: stations and queues, the free stack, each lane, then the record's own settings. -/
theorem schedulerClearRestarts : Obligations.SchedulerClearRestarts := by
  intro r s hrow clamped
  refine ⟨takeSchedulerClear r s,
    (exec_of_requestOf r s _ rfl).trans (congrArg _ (takeRequest_schedulerClear r s hrow)),
    fun n => ⟨?queue, ?account, ?entry⟩, resetFree_eq, rfl, fun l => ?lane, rfl, rfl, rfl, rfl,
    passed_forward _ (.refl s), rfl, rfl, rfl, rfl⟩
  case queue => exact schedulerClear_queue (takeGlobalSettings r s) n
  case account => exact schedulerClear_account (takeGlobalSettings r s) n
  case entry => exact schedulerClear_entry_eq n
  case lane =>
    have hlane : (takeGlobalSettings r s).lane l = s.lane l := by cases l <;> rfl
    have hclear : (takeSchedulerClear r s).lane l = (s.lane l).clear := by
      rw [takeSchedulerClear, forward_lane, schedulerClear_lane, hlane]
    exact hclear.trans (clear_eq _)

/-! ### The enable of a lane in service -/

/-- The enable of a lane in service is one write of the lane: its settings, then Running (R104, R107). -/
theorem takeLaneEnable_of_on (hon : (s.lane l).laneState ≠ .off) :
    takeLaneEnable l r s =
      (s.setLane l { (s.lane l).takeSettings (readLaneRecord r) with laneState := .running }).forward
        (withWord r 7 (laneResult (readLaneRecord r) .running)) := by
  have hrun : applyEnable l r (takeLaneSettings l r s) =
      s.setLane l { (s.lane l).takeSettings (readLaneRecord r) with laneState := .running } := by
    have hstate := takeSettings_laneState (s.lane l) (readLaneRecord r)
    simp only [applyEnable, takeLaneSettings, setLane_lane_self]
    cases hlane : (s.lane l).laneState with
    | off => exact absurd hlane hon
    | running =>
      rw [hlane] at hstate
      rw [hstate]
      exact congrArg (s.setLane l) (by rw [← hstate])
    | draining =>
      rw [hlane] at hstate
      rw [hstate]
      exact setLane_setLane s l _ _
  rw [takeLaneEnable, hrun, answerLane, setLane_lane_self]
  rfl

/-- Settles O36: the enable is one write of the lane. -/
theorem enableKeepsALaneInService : Obligations.EnableKeepsALaneInService := by
  intro r l s hrow hon
  have hwrite := (takeRequest_laneEnable r s l hrow).trans (takeLaneEnable_of_on hon)
  refine ⟨takeRequest r s, exec_laneEnable r s, ?lane, setLane_forward_frame _ _ _ _ _ hwrite⟩
  rw [hwrite, forward_lane, setLane_lane_self]

/-! ### The disable of a lane -/

/-- A lane after its disable: a Running lane loses its staged frame, and a lane without issued grants goes Off (R104,
R106, R108). -/
def Lane.disable (x : Lane) : Lane :=
  match x.laneState with
  | .off => x
  | .running =>
    if x.issued = [] then ({ x with staged := none } : Lane).stopped
    else { x with staged := none, laneState := .draining }
  | .draining => if x.issued = [] then x.stopped else x

section Disable

variable {x : Lane}

theorem unstaged_eq (h : x.staged = none) : ({ x with staged := none } : Lane) = x := by rw [← h]

theorem disable_of_off (h : x.laneState = .off) : x.disable = x := by simp only [Lane.disable, h]

theorem disable_of_running_idle (h : x.laneState = .running) (hidle : x.issued = []) :
    x.disable = ({ x with staged := none } : Lane).stopped := by simp only [Lane.disable, h, hidle, if_pos]

theorem disable_of_running_busy (h : x.laneState = .running) (hbusy : x.issued ≠ []) :
    x.disable = { x with staged := none, laneState := .draining } := by simp only [Lane.disable, h, hbusy, if_false]

theorem disable_of_draining_idle (h : x.laneState = .draining) (hidle : x.issued = []) : x.disable = x.stopped := by
  simp only [Lane.disable, h, hidle, if_pos]

theorem disable_of_draining_busy (h : x.laneState = .draining) (hbusy : x.issued ≠ []) : x.disable = x := by
  simp only [Lane.disable, h, hbusy, if_false]

end Disable

theorem withdrawLane_of_none (h : (s.lane l).staged = none) : withdrawLane l s = s := by
  simp only [withdrawLane, h]

theorem withdrawLane_of_some {e : PoolEntry} (h : (s.lane l).staged = some e) :
    withdrawLane l s = (s.setLane l { s.lane l with staged := none }).setQueue e.owner (e :: s.queue e.owner) := by
  simp only [withdrawLane, h, returnToHead, clearStaged, setLane_queue]

/-- Without a staged frame to give back, a disable is one write of the lane. -/
theorem applyDisable_of_kept (h : (s.lane l).laneState ≠ .running ∨ (s.lane l).staged = none) :
    applyDisable l s = s.setLane l (s.lane l).disable := by
  cases hlane : (s.lane l).laneState with
  | off => simp only [applyDisable, hlane, disable_of_off hlane, setLane_lane_eq]
  | running =>
    have hstaged : (s.lane l).staged = none := h.resolve_left (absurd hlane ·)
    by_cases hidle : (s.lane l).issued = []
    · rw [disable_of_running_idle hlane hidle, unstaged_eq hstaged]
      simp only [applyDisable, hlane, withdrawLane_of_none hstaged, hidle, if_pos]
      rfl
    · simp only [applyDisable, hlane, withdrawLane_of_none hstaged, hidle, if_false,
        disable_of_running_busy hlane hidle, ← hstaged]
  | draining =>
    by_cases hidle : (s.lane l).issued = []
    · simp only [applyDisable, hlane, hidle, if_pos, disable_of_draining_idle hlane hidle]
      rfl
    · simp only [applyDisable, hlane, hidle, if_false, disable_of_draining_busy hlane hidle, setLane_lane_eq]

theorem setLane_setQueue_setLane (n : StationId) (q : List PoolEntry) (x y : Lane) :
    ((s.setLane l x).setQueue n q).setLane l y = (s.setLane l y).setQueue n q := by cases l <;> rfl

/-- A Running lane gives its staged frame back to its queue head as it is disabled (R95). -/
theorem applyDisable_of_returned {e : PoolEntry} (hrun : (s.lane l).laneState = .running)
    (hstaged : (s.lane l).staged = some e) :
    applyDisable l s = (s.setLane l (s.lane l).disable).setQueue e.owner (e :: s.queue e.owner) := by
  by_cases hidle : (s.lane l).issued = []
  · simp only [applyDisable, hrun, withdrawLane_of_some hstaged, hidle, if_pos, disable_of_running_idle hrun hidle,
      setLane_setQueue_setLane, setQueue_lane, setLane_lane_self]
    rfl
  · simp only [applyDisable, hrun, withdrawLane_of_some hstaged, hidle, if_false, disable_of_running_busy hrun hidle,
      setLane_setQueue_setLane, setQueue_lane, setLane_lane_self]

/-- A lane after a lane record that clears enable: its settings, then the disable. -/
def Lane.takeDisable (x : Lane) (q : LaneRecord) : Lane := (x.takeSettings q).disable

theorem takeLaneDisable_of_kept (h : (s.lane l).laneState ≠ .running ∨ (s.lane l).staged = none) :
    takeLaneDisable l r s = (s.setLane l ((s.lane l).takeDisable (readLaneRecord r))).forward
      (withWord r 7 (laneResult (readLaneRecord r) ((s.lane l).takeDisable (readLaneRecord r)).laneState)) := by
  have hlane : (takeLaneSettings l r s).lane l = (s.lane l).takeSettings (readLaneRecord r) := setLane_lane_self s l _
  have hdisable : applyDisable l (takeLaneSettings l r s) =
      s.setLane l ((s.lane l).takeDisable (readLaneRecord r)) := by
    rw [applyDisable_of_kept, hlane, takeLaneSettings, setLane_setLane]
    · rfl
    · rw [hlane, takeSettings_laneState, (takeSettings_parts _ _).1]
      exact h
  rw [takeLaneDisable, hdisable, answerLane, setLane_lane_self]
  rfl

theorem takeLaneDisable_of_returned {e : PoolEntry} (hrun : (s.lane l).laneState = .running)
    (hstaged : (s.lane l).staged = some e) :
    takeLaneDisable l r s = ((s.setLane l ((s.lane l).takeDisable (readLaneRecord r))).setQueue e.owner
        (e :: s.queue e.owner)).forward
      (withWord r 7 (laneResult (readLaneRecord r) ((s.lane l).takeDisable (readLaneRecord r)).laneState)) := by
  have hlane : (takeLaneSettings l r s).lane l = (s.lane l).takeSettings (readLaneRecord r) := setLane_lane_self s l _
  have hqueue : (takeLaneSettings l r s).queue e.owner = s.queue e.owner := setLane_queue s l _ _
  have hdisable : applyDisable l (takeLaneSettings l r s) =
      (s.setLane l ((s.lane l).takeDisable (readLaneRecord r))).setQueue e.owner (e :: s.queue e.owner) := by
    rw [applyDisable_of_returned (e := e), hlane, hqueue, takeLaneSettings, setLane_setLane]
    · rfl
    · rw [hlane, takeSettings_laneState, hrun]
    · rw [hlane, (takeSettings_parts _ _).1, hstaged]
  rw [takeLaneDisable, hdisable, answerLane, setQueue_lane, setLane_lane_self]
  rfl

/-- What a lane record that clears enable leaves unchanged, with the state its result word reports. -/
def DisableAnswered (r : Request) (l : LaneId) (s t : State) (after : LaneState) : Prop :=
  Passed (withWord r 7 (laneResult (readLaneRecord r) after)) s t
    ∧ OtherLaneKept l s t ∧ PoolKept s t ∧ ControlKept s t ∧ t.latched = s.latched
    ∧ ∀ n, t.entry n = s.entry n ∧ t.account n = s.account n

theorem takeLaneDisable_lane : (takeLaneDisable l r s).lane l = (s.lane l).takeDisable (readLaneRecord r) := by
  by_cases hkept : (s.lane l).laneState ≠ .running ∨ (s.lane l).staged = none
  · rw [takeLaneDisable_of_kept hkept, forward_lane, setLane_lane_self]
  · push Not at hkept
    obtain ⟨e, hstaged⟩ := Option.ne_none_iff_exists'.1 hkept.2
    rw [takeLaneDisable_of_returned hkept.1 hstaged, forward_lane, setQueue_lane, setLane_lane_self]

theorem takeLaneDisable_answered :
    DisableAnswered r l s (takeLaneDisable l r s) ((s.lane l).takeDisable (readLaneRecord r)).laneState := by
  by_cases hkept : (s.lane l).laneState ≠ .running ∨ (s.lane l).staged = none
  · obtain ⟨hpassed, hother, hstations, hpool, hcontrol, hlatched⟩ :=
      setLane_forward_frame _ _ _ _ _ (takeLaneDisable_of_kept (r := r) hkept)
    exact ⟨hpassed, hother, hpool, hcontrol, hlatched, fun n => ⟨(hstations n).1, (hstations n).2.1⟩⟩
  · push Not at hkept
    obtain ⟨e, hstaged⟩ := Option.ne_none_iff_exists'.1 hkept.2
    rw [takeLaneDisable_of_returned hkept.1 hstaged]
    refine ⟨passed_forward _ ?link, ?otherLane, ?pool, ?control, ?latched, fun n => ⟨?entry, ?account⟩⟩
    all_goals simp

/-- Only a Running lane with a staged frame changes a queue as it is disabled (R95). -/
theorem takeLaneDisable_queue_of_kept (h : (s.lane l).laneState ≠ .running ∨ (s.lane l).staged = none) (n : StationId) :
    (takeLaneDisable l r s).queue n = s.queue n := by
  rw [takeLaneDisable_of_kept h, forward_queue, setLane_queue]

theorem takeLaneDisable_queue_of_returned {e : PoolEntry} (hrun : (s.lane l).laneState = .running)
    (hstaged : (s.lane l).staged = some e) :
    (takeLaneDisable l r s).queue e.owner = e :: s.queue e.owner
      ∧ ∀ n, n ≠ e.owner → (takeLaneDisable l r s).queue n = s.queue n := by
  rw [takeLaneDisable_of_returned hrun hstaged]
  refine ⟨?owner, fun n hn => ?other⟩
  case owner => rw [forward_queue, setQueue_queue_self]
  case other => rw [forward_queue, setQueue_queue_other _ hn, setLane_queue]

/-- The lane that a disable leaves, and the frame that goes with the state it reports. -/
theorem takeLaneDisable_outcome {z : Lane} {after : LaneState}
    (h : ((s.lane l).takeSettings (readLaneRecord r)).disable = z) (hafter : z.laneState = after) :
    (takeLaneDisable l r s).lane l = z ∧ DisableAnswered r l s (takeLaneDisable l r s) after := by
  subst hafter h
  exact ⟨takeLaneDisable_lane, takeLaneDisable_answered⟩

/-- Settles O37, by the lane's state and whether it has issued grants. -/
theorem disableDrainsALane : Obligations.DisableDrainsALane := by
  intro r l s hrow y answered
  have hexec : exec (.laneDisable r) s = .next (takeLaneDisable l r s) :=
    (exec_laneDisable r s).trans (congrArg _ (takeRequest_laneDisable r s l hrow))
  have hstate : y.laneState = (s.lane l).laneState := takeSettings_laneState _ _
  have hissued : y.issued = (s.lane l).issued := (takeSettings_parts _ _).2
  rw [← hstate, ← hissued]
  refine ⟨fun hoff => ⟨_, hexec, ?_⟩, fun hrun => ⟨_, hexec, ?none, ?some, fun hidle => ?stops, fun hbusy => ?drains⟩,
    fun hdrain => ⟨_, hexec, ?queue, fun hidle => ?ends, fun hbusy => ?stays⟩⟩
  case none => exact fun hnone => takeLaneDisable_queue_of_kept (.inr hnone)
  case some => exact fun e hsome => takeLaneDisable_queue_of_returned (hstate.symm.trans hrun) hsome
  case stops => exact takeLaneDisable_outcome (disable_of_running_idle hrun hidle) rfl
  case drains => exact takeLaneDisable_outcome (disable_of_running_busy hrun hbusy) rfl
  case queue => exact takeLaneDisable_queue_of_kept (.inl fun h => nomatch (hdrain.symm.trans (hstate.trans h)))
  case ends => exact takeLaneDisable_outcome (disable_of_draining_idle hdrain hidle) rfl
  case stays => exact takeLaneDisable_outcome (disable_of_draining_busy hdrain hbusy) hdrain
  obtain ⟨hlane, hanswered⟩ := takeLaneDisable_outcome (disable_of_off hoff) hoff
  exact ⟨hlane, takeLaneDisable_queue_of_kept (.inl fun h => nomatch (hoff.symm.trans (hstate.trans h))), hanswered⟩

end Sys2Proof.Machine
end

section
/-! PROOFS. The snapshots of the probes (R158, R159, R161 to R163) and the responses that return upstream (R139, R140,
R149). -/

namespace Sys2Proof.Machine

open Sys2Proof

/-! ### The STATION snapshot (section 10.6) -/

section StationSnapshot

variable (s : State) (n : StationId)

theorem lifecycleCode_lt (c : Lifecycle) : c.code < 4 := by cases c <;> decide
theorem kindCode_lt (k : KindCode) : k.code < 4 := by cases k <;> decide
theorem modeCode_lt (m : ModeCode) : m.code < 4 := by cases m <;> decide
theorem laneBit_lt (l : LaneId) : laneBit l < 2 := by cases l <;> decide
theorem classCode_lt (c : ServiceClass) : classCode c < 2 := by cases c <;> decide
theorem lastOutcomeCode_lt (o : Option FrameOutcome) : lastOutcomeCode o < 4 := by
  cases o with
  | none => decide
  | some outcome => cases outcome <;> decide

/-- Word 1 of a STATION snapshot, by the widths of its fields. -/
theorem stationStatus_fields {life held dozing lane cls group staged floor outcome issued kind mode depth : Nat}
    (hlife : life < 4) (hheld : held < 2) (hdozing : dozing < 2) (hlane : lane < 2) (hcls : cls < 2) (hgroup : group < 2)
    (hstaged : staged < 2) (hfloor : floor < 2) (houtcome : outcome < 4) (hissued : issued < 8) (hkind : kind < 4)
    (hmode : mode < 4) (hdepth : depth < 256) :
    let w := wordOf (1 + life * 2 ^ 4 + held * 2 ^ 6 + dozing * 2 ^ 7 + lane * 2 ^ 8 + cls * 2 ^ 9 + group * 2 ^ 10
      + staged * 2 ^ 11 + floor * 2 ^ 12 + outcome * 2 ^ 13 + issued * 2 ^ 16 + kind * 2 ^ 20 + mode * 2 ^ 22
      + depth * 2 ^ 24)
    bits w 3 0 = 1 ∧ bits w 5 4 = life ∧ bits w 6 6 = held ∧ bits w 7 7 = dozing ∧ bits w 8 8 = lane ∧ bits w 9 9 = cls
      ∧ bits w 10 10 = group ∧ bits w 11 11 = staged ∧ bits w 12 12 = floor ∧ bits w 14 13 = outcome
      ∧ bits w 15 15 = 0 ∧ bits w 18 16 = issued ∧ bits w 19 19 = 0 ∧ bits w 21 20 = kind ∧ bits w 23 22 = mode
      ∧ bits w 31 24 = depth := by
  simp only [bits_wordOf]
  refine ⟨?_, ?_, ?_, ?_, ?_, ?_, ?_, ?_, ?_, ?_, ?_, ?_, ?_, ?_, ?_, ?_⟩
  all_goals omega

theorem stationLimits_fields (rate weight depthLimit : Nat) :
    let w := wordOf (rate % 2 ^ 13 + weight % 256 * 2 ^ 16 + depthLimit % 256 * 2 ^ 24)
    bits w 12 0 = rate % 8192 ∧ bits w 15 13 = 0 ∧ bits w 23 16 = weight % 256 ∧ bits w 31 24 = depthLimit % 256 := by
  simp only [bits_wordOf]
  omega

theorem ceilingWord_fields (ceiling : Nat) :
    bits (wordOf (ceiling % 2 ^ 16)) 15 0 = ceiling % 65536 ∧ bits (wordOf (ceiling % 2 ^ 16)) 31 16 = 0 := by
  simp only [bits_wordOf]
  omega

theorem reservationWord_fields (reservation : Nat) :
    bits (wordOf (reservation % 2 ^ 17)) 16 0 = reservation % 131072 ∧ bits (wordOf (reservation % 2 ^ 17)) 31 17 = 0 := by
  simp only [bits_wordOf]
  omega

theorem classCode_serviceClass (m : ModeCode) : classCode m.serviceClass = if m = .unicastShared then 0 else 1 := by
  cases m <;> rfl

theorem groupBit_eq (m : ModeCode) : (m == .group).toNat = if m = .group then 1 else 0 := by cases m <;> rfl

theorem stagedMark_eq : (stagedFor s n).isSome.toNat = match (s.lane (s.entry n).shadow.lane).staged with
    | some x => if x.owner = n then 1 else 0
    | none => 0 := by
  unfold stagedFor
  cases (s.lane (s.entry n).shadow.lane).staged with
  | none => rfl
  | some x =>
    dsimp only
    by_cases howner : x.owner = n
    · rw [if_pos howner, if_pos howner]; rfl
    · rw [if_neg howner, if_neg howner]; rfl

end StationSnapshot

/-- Settles O38: the fields of each snapshot word do not overlap, and a probe only sends its write on. -/
theorem stationProbeReports : Obligations.StationProbeReports := by
  intro r n s hrow e a
  obtain ⟨hcode, hlife, hheld, hdozing, hlane, hclass, hgroup, hstaged, hfloor, houtcome, hpad, hissued, hpad', hkind,
      hmode, hdepth⟩ := stationStatus_fields (lifecycleCode_lt e.lifecycle) e.held.toNat_lt e.dozing.toNat_lt
    (laneBit_lt e.shadow.lane) (classCode_lt e.shadow.mode.serviceClass) (e.shadow.mode == .group).toNat_lt
    (stagedFor s n).isSome.toNat_lt a.floorReached.toNat_lt (lastOutcomeCode_lt a.lastOutcome)
    (Nat.mod_lt (issuedCount (s.lane e.shadow.lane) n) (by decide : 0 < 8)) (kindCode_lt e.shadow.kind)
    (modeCode_lt e.shadow.mode) (Nat.mod_lt (s.queue n).length (by decide : 0 < 256))
  obtain ⟨hrate, hlow, hweight, hlimit⟩ := stationLimits_fields e.shadow.rate e.shadow.weight e.shadow.depthLimit
  obtain ⟨hceiling, hceilingHigh⟩ := ceilingWord_fields e.shadow.ceiling
  obtain ⟨hreservation, hreservationHigh⟩ := reservationWord_fields a.reservation
  refine ⟨takeStationProbe n r s, _, _, _, _,
    (exec_stationProbe r s).trans (congrArg _ (takeRequest_stationProbe r s n hrow)), passed_forward _ (.refl s),
    .refl s, rfl, hcode, hlife.trans ?life, hheld, hdozing, hlane.trans ?lane, hclass.trans (classCode_serviceClass _),
    hgroup.trans (groupBit_eq _), hstaged.trans (stagedMark_eq s n), hfloor, houtcome.trans ?outcome, hpad, hissued, hpad',
    hkind.trans ?kind, hmode.trans ?mode, hdepth, hrate, hlow, hweight, hlimit, hceiling, hceilingHigh, hreservation,
    hreservationHigh⟩
  case life => cases e.lifecycle <;> rfl
  case lane => cases e.shadow.lane <;> rfl
  case outcome =>
    cases a.lastOutcome with
    | none => rfl
    | some outcome => cases outcome <;> rfl
  case kind => cases e.shadow.kind <;> rfl
  case mode => cases e.shadow.mode <;> rfl

/-! ### The LANE snapshot (section 10.6) -/

section LaneSnapshot

theorem laneStateCode_lt (c : LaneState) : c.code < 4 := by cases c <;> decide
theorem phaseCode_lt (p : ServiceClass) : phaseCode p < 2 := by cases p <;> decide
theorem phaseModeCode_lt (m : PhaseMode) : m.code < 4 := by cases m <;> decide

/-- Word 1 of a LANE snapshot, by the widths of its fields. -/
theorem laneStatus_fields {state phase mode sweeping owed issued position source : Nat} (hstate : state < 4)
    (hphase : phase < 2) (hmode : mode < 4) (hsweeping : sweeping < 2) (howed : owed < 2) (hissued : issued < 8)
    (hposition : position < 32) (hsource : source < 16) :
    let w := wordOf (1 + state * 2 ^ 4 + phase * 2 ^ 6 + mode * 2 ^ 8 + sweeping * 2 ^ 10 + owed * 2 ^ 11
      + issued * 2 ^ 12 + position * 2 ^ 16 + source * 2 ^ 24)
    bits w 3 0 = 1 ∧ bits w 5 4 = state ∧ bits w 6 6 = phase ∧ bits w 7 7 = 0 ∧ bits w 9 8 = mode
      ∧ bits w 10 10 = sweeping ∧ bits w 11 11 = owed ∧ bits w 14 12 = issued ∧ bits w 15 15 = 0
      ∧ bits w 20 16 = position ∧ bits w 23 21 = 0 ∧ bits w 27 24 = source ∧ bits w 31 28 = 0 := by
  simp only [bits_wordOf]
  refine ⟨?_, ?_, ?_, ?_, ?_, ?_, ?_, ?_, ?_, ?_, ?_, ?_, ?_⟩
  all_goals omega

/-- Word 2 of a LANE snapshot, with the staged station and its mark. -/
theorem laneSlots_fields {expected seq owner mark : Nat} (hexpected : expected < 64) (hseq : seq < 256)
    (howner : owner < 512) (hmark : mark < 2) :
    let w := wordOf (expected + seq * 2 ^ 8 + (owner * 2 ^ 16 + mark * 2 ^ 31))
    bits w 5 0 = expected ∧ bits w 7 6 = 0 ∧ bits w 15 8 = seq ∧ bits w 24 16 = owner ∧ bits w 30 25 = 0
      ∧ bits w 31 31 = mark := by
  simp only [bits_wordOf]
  omega

/-- The word of an issued grant, by the widths of its fields. -/
theorem issuedGrant_fields {slot seq owner : Nat} (hslot : slot < 64) (hseq : seq < 256) (howner : owner < 512) :
    let w := wordOf (slot + seq * 2 ^ 8 + owner * 2 ^ 16)
    bits w 5 0 = slot ∧ bits w 7 6 = 0 ∧ bits w 15 8 = seq ∧ bits w 24 16 = owner ∧ bits w 31 25 = 0 := by
  simp only [bits_wordOf]
  omega

/-- The staged station as word 2 of a LANE snapshot carries it, 0 where none is staged. -/
def stagedOwner (x : Lane) : Nat :=
  match x.staged with
  | some e => e.owner.val
  | none => 0

/-- The staged mark as word 2 of a LANE snapshot carries it. -/
def stagedMark (x : Lane) : Nat :=
  match x.staged with
  | some _ => 1
  | none => 0

variable {x : Lane} {k : Nat}

theorem stagedOwner_lt (x : Lane) : stagedOwner x < 512 := by
  unfold stagedOwner
  split
  · exact Fin.isLt _
  · decide

theorem stagedMark_lt (x : Lane) : stagedMark x < 2 := by
  unfold stagedMark
  split <;> decide

theorem laneSnapshot_eq (s : State) (l : LaneId) : laneSnapshot s l =
    [ wordOf (1 + (s.lane l).laneState.code * 2 ^ 4 + phaseCode (s.lane l).phase * 2 ^ 6 + (s.lane l).mode.code * 2 ^ 8
        + (s.lane l).sweeping.toNat * 2 ^ 10 + (s.lane l).owed.toNat * 2 ^ 11 + (s.lane l).issued.length % 8 * 2 ^ 12
        + (s.lane l).position.val * 2 ^ 16 + (s.radioSource l).toNat * 2 ^ 24),
      wordOf ((s.lane l).expected.val + (s.lane l).nextSeq.toNat * 2 ^ 8
        + (stagedOwner (s.lane l) * 2 ^ 16 + stagedMark (s.lane l) * 2 ^ 31)),
      issuedWord (s.lane l) 0, issuedWord (s.lane l) 1, issuedWord (s.lane l) 2, issuedWord (s.lane l) 3, 0 ] := by
  cases hstaged : (s.lane l).staged with
  | none => simp only [laneSnapshot, stagedOwner, stagedMark, hstaged, ResultCode.code, Nat.zero_mul, Nat.add_zero]
  | some e => simp only [laneSnapshot, stagedOwner, stagedMark, hstaged, ResultCode.code, Nat.one_mul]

theorem issuedWord_of_none (h : x.issued[k]? = none) : issuedWord x k = 0 := by simp only [issuedWord, h]

theorem issuedWord_of_some {g : Grant} (h : x.issued[k]? = some g) :
    issuedWord x k = wordOf (g.slot.val + g.seq.toNat * 2 ^ 8 + g.entry.owner.val * 2 ^ 16) := by
  simp only [issuedWord, h]

/-- The issued words of a LANE snapshot, each at the grant's place in issue order. -/
theorem getElem?_issuedWords {i : Nat} {w : Word}
    (h : [issuedWord x 0, issuedWord x 1, issuedWord x 2, issuedWord x 3][i]? = some w) : w = issuedWord x i := by
  match i, h with
  | 0, h | 1, h | 2, h | 3, h => exact (Option.some.inj h).symm
  | _ + 4, h => exact nomatch h

end LaneSnapshot

/-- Settles O39: the fields of each snapshot word do not overlap, and a probe only sends its write on. -/
theorem laneProbeReports : Obligations.LaneProbeReports := by
  intro r l s hrow x
  obtain ⟨hcode, hstate, hphase, hpad, hmode, hsweeping, howed, hissued, hpad', hposition, hpad'', hsource, hhigh⟩ :=
    laneStatus_fields (laneStateCode_lt x.laneState) (phaseCode_lt x.phase) (phaseModeCode_lt x.mode) x.sweeping.toNat_lt
      x.owed.toNat_lt (Nat.mod_lt x.issued.length (by decide : 0 < 8)) x.position.isLt (s.radioSource l).isLt
  obtain ⟨hexpected, hslotPad, hseq, howner, hslotHigh, hmark⟩ :=
    laneSlots_fields x.expected.isLt x.nextSeq.isLt (stagedOwner_lt x) (stagedMark_lt x)
  have hpassed : Passed (replaceSnapshot r (laneSnapshot s l)) s (takeLaneProbe l r s) := passed_forward _ (.refl s)
  rw [laneSnapshot_eq, replaceSnapshot] at hpassed
  refine ⟨takeLaneProbe l r s, _, _, _, _, _, _,
    (exec_laneProbe r s).trans (congrArg _ (takeRequest_laneProbe r s l hrow)), hpassed, .refl s, rfl, hcode,
    hstate.trans ?state, hphase.trans ?phase, hpad, hmode.trans ?mode, hsweeping, howed, hissued, hpad', hposition, hpad'',
    hsource.trans ?source, hhigh, hexpected, hslotPad, hseq, howner, hslotHigh, hmark, fun i w hw => ⟨?none, ?some⟩⟩
  case state => cases x.laneState <;> rfl
  case phase => cases x.phase <;> rfl
  case mode => cases x.mode <;> rfl
  case source => cases l <;> rfl
  case none => exact fun hnone => (getElem?_issuedWords hw).trans (issuedWord_of_none hnone)
  case some =>
    intro g hg
    rw [getElem?_issuedWords hw, issuedWord_of_some hg]
    exact issuedGrant_fields g.slot.isLt g.seq.isLt g.entry.owner.isLt

/-! ### The POOL and ATTENTION snapshots (section 10.6) -/

theorem poolWord_fields (free watermark : Nat) :
    let w := wordOf (free % 8192 + watermark % 8192 * 2 ^ 16)
    bits w 12 0 = free % 8192 ∧ bits w 15 13 = 0 ∧ bits w 28 16 = watermark % 8192 ∧ bits w 31 29 = 0 := by
  simp only [bits_wordOf]
  omega

theorem leastFreeWord_fields (least : Nat) :
    bits (wordOf (least % 8192)) 12 0 = least % 8192 ∧ bits (wordOf (least % 8192)) 31 13 = 0 := by
  simp only [bits_wordOf]
  omega

/-- Settles O40: the snapshot is taken before the least free count restarts. -/
theorem poolProbeReports : Obligations.PoolProbeReports := by
  intro r s hrow
  obtain ⟨hfree, hpad, hwatermark, hhigh⟩ := poolWord_fields s.free.length s.watermark
  obtain ⟨hleast, hleastHigh⟩ := leastFreeWord_fields s.leastFree
  exact ⟨takePoolProbe r s, _, _, (exec_poolProbe r s).trans (congrArg _ (takeRequest_poolProbe r s hrow)),
    passed_forward _ (.refl s), hfree, hpad, hwatermark, hhigh, hleast, hleastHigh, rfl, rfl, .refl s, .refl s, .refl s, rfl⟩

section Causes

/-- Each of the eleven positions of a cause set is a cause's (section 10.8). -/
theorem exists_cause_of_lt {i : Nat} (hi : i < 11) : ∃ c : Cause, c.bit = i := by
  interval_cases i
  exacts [⟨.recordRefused, rfl⟩, ⟨.partialWrite, rfl⟩, ⟨.postRefused, rfl⟩, ⟨.poolLow, rfl⟩, ⟨.creditFloor, rfl⟩,
    ⟨.refillOverrun, rfl⟩, ⟨.ringOrder, rfl⟩, ⟨.completionFraming, rfl⟩, ⟨.completionUnmatched, rfl⟩,
    ⟨.lateCompletion, rfl⟩, ⟨.grantExpired, rfl⟩]

/-- ATTN_N is low exactly while some latched cause is enabled (R158). -/
theorem attnLow_iff {s : State} :
    s.attnLow = true ↔ ∃ c : Cause, s.latched.getLsbD c.bit = true ∧ s.enabled.getLsbD c.bit = true := by
  rw [State.attnLow, bne_iff_ne]
  constructor
  · intro hne
    by_contra hnone
    refine hne (BitVec.eq_of_getLsbD_eq fun i hi => ?_)
    obtain ⟨c, rfl⟩ := exists_cause_of_lt hi
    rw [BitVec.getLsbD_and, BitVec.ofNat_eq_ofNat, BitVec.getLsbD_zero, Bool.and_eq_false_iff, Bool.eq_false_iff, Bool.eq_false_iff]
    exact not_and_or.1 fun hboth => hnone ⟨c, hboth⟩
  · rintro ⟨c, hlatched, henabled⟩ hzero
    have hbit : (s.latched &&& s.enabled).getLsbD c.bit = false := by
      rw [hzero, BitVec.ofNat_eq_ofNat, BitVec.getLsbD_zero]
    rw [BitVec.getLsbD_and, hlatched, henabled] at hbit
    cases hbit

theorem mask_toNat (c : Cause) : c.mask.toNat = 2 ^ c.bit := by cases c <;> rfl

/-- A cause set as a snapshot word carries it: its bits in place and nothing above them. -/
theorem causeWord_fields (v : BitVec 11) : (wordOf v.toNat).toNat = v.toNat ∧ bits (wordOf v.toNat) 31 11 = 0 := by
  have hv := v.isLt
  rw [bits_wordOf, wordOf, BitVec.toNat_ofNat]
  omega

theorem causeWord_bit (v : BitVec 11) (i : Nat) : bits (wordOf v.toNat) i i = (v.getLsbD i).toNat := by
  rw [bits, (causeWord_fields v).1, BitVec.getLsbD, Nat.toNat_testBit, Nat.add_sub_cancel_left, pow_one]

theorem attentionStatus_fields (low : Bool) :
    let w := wordOf (1 + low.toNat * 2 ^ 4)
    bits w 3 0 = 1 ∧ bits w 31 5 = 0 ∧ bits w 4 4 = low.toNat := by
  cases low <;> decide

end Causes

/-- Settles O41: the snapshot is taken before the latched set is emptied. -/
theorem attentionProbeClears : Obligations.AttentionProbeClears := by
  refine ⟨⟨rfl, rfl, rfl, rfl, rfl, rfl, rfl, rfl, rfl, rfl, rfl, mask_toNat⟩, fun r s hrow => ?probe⟩
  case probe =>
    obtain ⟨hcode, hhigh, hlow⟩ := attentionStatus_fields s.attnLow
    obtain ⟨hlatched, hlatchedHigh⟩ := causeWord_fields s.latched
    obtain ⟨henabled, henabledHigh⟩ := causeWord_fields s.enabled
    refine ⟨takeAttentionProbe r s, _, _, _,
      (exec_attentionProbe r s).trans (congrArg _ (takeRequest_attentionProbe r s hrow)), passed_forward _ (.refl s),
      hcode, hhigh, ?low, fun c => ⟨causeWord_bit s.latched c.bit, causeWord_bit s.enabled c.bit⟩, hlatched, henabled,
      hlatchedHigh, henabledHigh, rfl, ?released, .refl s⟩
    case low => exact (hlow ▸ Bool.toNat_eq_one).trans attnLow_iff
    case released => simp [State.attnLow, takeAttentionProbe]

/-! ### Responses (R139, R140, R149) -/

/-- Settles O46: the response removes its request, and the part's own words stand in for memory's where it has some. -/
theorem responsesReturnWithMemorysStatus : Obligations.ResponsesReturnWithMemorysStatus := by
  intro k status words s
  refine ⟨fun o hout => ⟨takeResponse k status words s, rfl, ?_⟩, fun hout => ?none⟩
  case none =>
    have hnone : s.outstanding[k]? = none := List.getElem?_eq_none hout
    have hsame : takeResponse k status words s = s := by simp only [takeResponse, hnone]
    exact congrArg Host.Outcome.next hsame
  have htake : takeResponse k status words s = { s with
      outstanding := s.outstanding.eraseIdx k
      up := s.up ++ [{ req := o.req, status := status, words := o.answer.getD words }] } := by
    simp only [takeResponse, hout]
  rw [htake]
  refine ⟨?words, List.eraseIdx_eq_take_drop_succ .., rfl, .refl s, rfl⟩
  cases o.answer <;> rfl

end Sys2Proof.Machine
end
